-- ==== Sys2Proof/Word.lean ====
section
/-!
DEFINITION. The word types of QMOD-LFO: the widths of its ports and fields (spec rules R8, R21, R22,
R24 to R26, R81). Bit 0 is the least significant bit everywhere (00_scope.md, Notation).
-/

namespace Sys2Proof

/-- One byte: a table entry or an emitted sample, unsigned (R24, R60). -/
abbrev Byte := BitVec 8

/-- The 32-bit command word `w[31:0]` of the command port (R80, R81). -/
abbrev CmdWord := BitVec 32

/-- A waveform-kind code as the register `KIND[i]` holds it (R21, R86). -/
abbrev KindCode := BitVec 4

/-- A frequency code: hertz times 65536, unsigned (R22). -/
abbrev FreqCode := BitVec 24

/-- The code `k` that indexes `FREQMAP`, `NORM_BITS = 10` bits (R8, R74). -/
abbrev MapCode := BitVec 10

/-- A value of the microsecond clock port `NOW_US`, of `TREF` or, in milliseconds, of `RS_LAST`:
`TIME_BITS = 64` bits (R8, R26, R29, R104). -/
abbrev Time := BitVec 64

/-- A channel index 0..3 (R5). -/
abbrev ChIx := Fin 4

end Sys2Proof
end

