-- ==== Sys2Proof/Config.lean ====
section
/-!
DEFINITION. What is fixed for the machine and is not state (R40): the configuration record `CFG`
(00_scope.md R5 to R10, R12), the read-only tables `TRI`, `SQR`, `SIN` (R60 to R65), the type of the open
parameters `FREQMAP` and `SCHED_ADVANCE` with their default instances (R11, R74, R240), and the one value no
rule fixes, the answers of the random source (R11, R150).
-/

namespace Sys2Proof

/-- `SCHED_ADVANCE` (R11, R88): how a ticking `POLL` moves `TREF`. -/
inductive SchedAdvance where
  /-- by whole intervals, R102 (the default instance) -/
  | grid
  /-- to the clock value, R103 -/
  | now
  deriving DecidableEq, Repr

/-- The configuration record `CFG`: every constant of the block is a field of it (00_scope.md section 3),
static for the lifetime of the block (R12). The default of a field is the value this hardware takes. -/
structure Cfg where
  /-- `N_CH` (R5) -/
  nCh : Nat := 4
  /-- `TABLE_SIZE` (R5) -/
  tableSize : Nat := 256
  /-- `N_KINDS` (R5) -/
  nKinds : Nat := 12
  /-- `RING_OFFSET` (R5) -/
  ringOffset : Nat := 3
  /-- `TICK_US`, microseconds (R6) -/
  tickUs : Nat := 400
  /-- `F_MIN` in hertz (R7) -/
  fMin : ℚ := 1 / 20
  /-- `F_MAX` in hertz (R7) -/
  fMax : ℚ := 20
  /-- `FRAC_BITS`, written `F` (R8) -/
  fracBits : Nat := 32
  /-- `HZ_FRAC_BITS` (R8) -/
  hzFracBits : Nat := 16
  /-- `NORM_BITS`: the width of `SETN`'s code `k` (R8) -/
  normBits : Nat := 10
  /-- `TIME_BITS`: the width of the clock port, `TREF` and `RS_LAST` (R8) -/
  timeBits : Nat := 64
  /-- `FM_DEPTH_HZ` (R9) -/
  fmDepthHz : ℚ := 20
  /-- `FM_F_LO` (R9) -/
  fmFLo : ℚ := 1 / 100
  /-- `FM_F_HI` (R9) -/
  fmFHi : ℚ := 25
  /-- `AM_DEPTH` (R9) -/
  amDepth : ℚ := 1
  /-- `TRISINE_RATIOS` (R9) -/
  trisineRatios : List ℚ := [1618 / 1000, 133 / 100, 17 / 10, 1732 / 1000]
  /-- `TRISINE_CLAMP` (R9) -/
  trisineClamp : ℚ := 127
  /-- `SWARM_BREATH_HZ` (R9) -/
  swarmBreathHz : ℚ := 1 / 4
  /-- `SWARM_RATIOS[0]` (R9) -/
  swarmRatio0 : ℚ := 8
  /-- `SWARM_RATIOS[1]` (R9) -/
  swarmRatio1 : ℚ := 11
  /-- `SWARM_RATIOS[2]` (R9) -/
  swarmRatio2 : ℚ := 7
  /-- `SWARM_WEIGHTS[0]` (R9) -/
  swarmWeight0 : ℚ := 45 / 100
  /-- `SWARM_WEIGHTS[1]` (R9) -/
  swarmWeight1 : ℚ := 32 / 100
  /-- `SWARM_WEIGHTS[2]` (R9) -/
  swarmWeight2 : ℚ := 40 / 100
  /-- `SWARM_AMP_LO` (R9) -/
  swarmAmpLo : ℚ := 1 / 10
  /-- `SWARM_AMP_HI` (R9) -/
  swarmAmpHi : ℚ := 9 / 10
  /-- `PEND_DETUNE` (R9) -/
  pendDetune : ℚ := 95 / 100
  /-- `GRAV_RETARGET_PER_MILLE` (R9) -/
  gravRetargetPerMille : Int := 4
  /-- `GRAV_LO` (R9) -/
  gravLo : ℚ := 1 / 10
  /-- `GRAV_HI` (R9) -/
  gravHi : ℚ := 5
  /-- `GRAV_PULL` (R9) -/
  gravPull : ℚ := 18 / 100
  /-- `RAT_MULT_LO` (R9) -/
  ratMultLo : Int := 2
  /-- `RAT_MULT_HI` (R9) -/
  ratMultHi : Int := 8
  /-- `RAT_BURST_LO` (R9) -/
  ratBurstLo : Int := 30
  /-- `RAT_BURST_HI` (R9) -/
  ratBurstHi : Int := 130
  /-- `RAT_LONG_LO` (R9) -/
  ratLongLo : Int := 200
  /-- `RAT_LONG_HI` (R9) -/
  ratLongHi : Int := 600
  /-- `RAT_MAXB_LO` (R9) -/
  ratMaxbLo : Int := 2
  /-- `RAT_MAXB_HI` (R9) -/
  ratMaxbHi : Int := 5
  /-- `RAT_SHORT_LO` (R9) -/
  ratShortLo : Int := 50
  /-- `RAT_SHORT_HI` (R9) -/
  ratShortHi : Int := 150
  /-- `RAT_STUT_PCT` (R9) -/
  ratStutPct : Int := 10
  /-- `RAT_STUT_LO` (R9) -/
  ratStutLo : Int := 10
  /-- `RAT_STUT_HI` (R9) -/
  ratStutHi : Int := 30
  /-- `WK_JIT_PCT` (R9) -/
  wkJitPct : Int := 5
  /-- `WK_LONG_PCT` (R9) -/
  wkLongPct : Int := 80
  /-- `WK_LONG_LO` (R9) -/
  wkLongLo : Int := 200
  /-- `WK_LONG_HI` (R9) -/
  wkLongHi : Int := 800
  /-- `WK_SHORT_LO` (R9) -/
  wkShortLo : Int := 10
  /-- `WK_SHORT_HI` (R9) -/
  wkShortHi : Int := 80
  /-- `WK_GENTLE_PCT` (R9) -/
  wkGentlePct : Int := 70
  /-- `WK_MULT_LO` (R9) -/
  wkMultLo : ℚ := 6 / 10
  /-- `WK_MULT_HI` (R9) -/
  wkMultHi : ℚ := 16 / 10
  /-- `WK_NUDGE_THRESH` (R9) -/
  wkNudgeThresh : ℚ := 125 / 100
  /-- `WK_JIT_MAX` (R10) -/
  wkJitMax : Int := 4
  /-- `WK_DRIFT_LO` (R10) -/
  wkDriftLo : ℚ := 5 / 100
  /-- `WK_DRIFT_HI` (R10) -/
  wkDriftHi : ℚ := 30 / 100
  /-- `WK_GLITCH_LO` (R10) -/
  wkGlitchLo : Int := 50
  /-- `WK_GLITCH_HI` (R10) -/
  wkGlitchHi : Int := 180
  /-- `WK_NUDGE_PCT` (R10) -/
  wkNudgePct : Int := 2
  /-- `WK_NUDGE_MAX` (R10) -/
  wkNudgeMax : Int := 8
  /-- `GRAV_DRAW_LO` (R10) -/
  gravDrawLo : Int := 10
  /-- `GRAV_DRAW_HI` (R10) -/
  gravDrawHi : Int := 500
  /-- `GRAV_DRAW_DEN` (R10) -/
  gravDrawDen : ℚ := 100
  deriving DecidableEq, Repr

/-- The configuration of this hardware (R5 to R10, the column "value"). -/
def cfg : Cfg := {}

/-- The three waveform tables (R60). -/
inductive Table where
  /-- triangle, `TRI` (R62) -/
  | tri
  /-- square, `SQR` (R63) -/
  | sqr
  /-- sine, `SIN` (R64) -/
  | sin
  deriving DecidableEq, Repr

/-- The sine table as R64 lists it, sixteen entries to a row: row `r` holds `SIN[16 r]` to `SIN[16 r + 15]`. -/
def sineRows : List (List Nat) :=
  [[128, 131, 134, 137, 140, 143, 146, 149, 152, 155, 158, 162, 165, 167, 170, 173],
   [176, 179, 182, 185, 188, 190, 193, 196, 198, 201, 203, 206, 208, 211, 213, 215],
   [218, 220, 222, 224, 226, 228, 230, 232, 234, 235, 237, 238, 240, 241, 243, 244],
   [245, 246, 248, 249, 250, 250, 251, 252, 253, 253, 254, 254, 254, 255, 255, 255],
   [255, 255, 255, 255, 254, 254, 254, 253, 253, 252, 251, 250, 250, 249, 248, 246],
   [245, 244, 243, 241, 240, 238, 237, 235, 234, 232, 230, 228, 226, 224, 222, 220],
   [218, 215, 213, 211, 208, 206, 203, 201, 198, 196, 193, 190, 188, 185, 182, 179],
   [176, 173, 170, 167, 165, 162, 158, 155, 152, 149, 146, 143, 140, 137, 134, 131],
   [128, 124, 121, 118, 115, 112, 109, 106, 103, 100, 97, 93, 90, 88, 85, 82],
   [79, 76, 73, 70, 67, 65, 62, 59, 57, 54, 52, 49, 47, 44, 42, 40],
   [37, 35, 33, 31, 29, 27, 25, 23, 21, 20, 18, 17, 15, 14, 12, 11],
   [10, 9, 7, 6, 5, 5, 4, 3, 2, 2, 1, 1, 1, 0, 0, 0],
   [0, 0, 0, 0, 1, 1, 1, 2, 2, 3, 4, 5, 5, 6, 7, 9],
   [10, 11, 12, 14, 15, 17, 18, 20, 21, 23, 25, 27, 29, 31, 33, 35],
   [37, 40, 42, 44, 47, 49, 52, 54, 57, 59, 62, 65, 67, 70, 73, 76],
   [79, 82, 85, 88, 90, 93, 97, 100, 103, 106, 109, 112, 115, 118, 121, 124]]

/-- `FREQMAP[0]` to `FREQMAP[127]` as R240 lists them, eight to a row. -/
def freqMapRows0 : List (List Nat) :=
  [[3277, 3296, 3315, 3335, 3354, 3374, 3394, 3414],
   [3434, 3454, 3474, 3495, 3515, 3536, 3557, 3578],
   [3599, 3620, 3641, 3662, 3684, 3706, 3727, 3749],
   [3771, 3793, 3816, 3838, 3861, 3883, 3906, 3929],
   [3952, 3975, 3999, 4022, 4046, 4070, 4094, 4118],
   [4142, 4166, 4191, 4215, 4240, 4265, 4290, 4315],
   [4341, 4366, 4392, 4417, 4443, 4469, 4496, 4522],
   [4549, 4575, 4602, 4629, 4657, 4684, 4711, 4739],
   [4767, 4795, 4823, 4851, 4880, 4909, 4937, 4966],
   [4996, 5025, 5054, 5084, 5114, 5144, 5174, 5205],
   [5235, 5266, 5297, 5328, 5359, 5391, 5422, 5454],
   [5486, 5519, 5551, 5584, 5616, 5649, 5683, 5716],
   [5750, 5783, 5817, 5851, 5886, 5920, 5955, 5990],
   [6025, 6061, 6096, 6132, 6168, 6204, 6241, 6277],
   [6314, 6351, 6389, 6426, 6464, 6502, 6540, 6579],
   [6617, 6656, 6695, 6735, 6774, 6814, 6854, 6894]]

/-- `FREQMAP[128]` to `FREQMAP[255]` as R240 lists them, eight to a row. -/
def freqMapRows1 : List (List Nat) :=
  [[6935, 6975, 7016, 7058, 7099, 7141, 7183, 7225],
   [7267, 7310, 7353, 7396, 7440, 7483, 7527, 7571],
   [7616, 7661, 7706, 7751, 7796, 7842, 7888, 7935],
   [7981, 8028, 8075, 8123, 8170, 8218, 8267, 8315],
   [8364, 8413, 8463, 8512, 8562, 8613, 8663, 8714],
   [8765, 8817, 8869, 8921, 8973, 9026, 9079, 9132],
   [9186, 9240, 9294, 9349, 9404, 9459, 9514, 9570],
   [9626, 9683, 9740, 9797, 9855, 9912, 9971, 10029],
   [10088, 10147, 10207, 10267, 10327, 10388, 10449, 10510],
   [10572, 10634, 10697, 10760, 10823, 10886, 10950, 11015],
   [11079, 11144, 11210, 11276, 11342, 11408, 11475, 11543],
   [11611, 11679, 11748, 11817, 11886, 11956, 12026, 12097],
   [12168, 12239, 12311, 12383, 12456, 12529, 12603, 12677],
   [12751, 12826, 12902, 12977, 13054, 13130, 13207, 13285],
   [13363, 13441, 13520, 13600, 13680, 13760, 13841, 13922],
   [14004, 14086, 14169, 14252, 14336, 14420, 14505, 14590]]

/-- `FREQMAP[256]` to `FREQMAP[383]` as R240 lists them, eight to a row. -/
def freqMapRows2 : List (List Nat) :=
  [[14676, 14762, 14849, 14936, 15024, 15112, 15201, 15290],
   [15380, 15470, 15561, 15652, 15744, 15837, 15930, 16023],
   [16118, 16212, 16307, 16403, 16500, 16596, 16694, 16792],
   [16891, 16990, 17090, 17190, 17291, 17393, 17495, 17598],
   [17701, 17805, 17909, 18015, 18120, 18227, 18334, 18442],
   [18550, 18659, 18769, 18879, 18990, 19101, 19213, 19326],
   [19440, 19554, 19669, 19784, 19901, 20017, 20135, 20253],
   [20372, 20492, 20612, 20733, 20855, 20978, 21101, 21225],
   [21350, 21475, 21601, 21728, 21856, 21984, 22113, 22243],
   [22374, 22505, 22637, 22770, 22904, 23039, 23174, 23310],
   [23447, 23585, 23723, 23863, 24003, 24144, 24285, 24428],
   [24572, 24716, 24861, 25007, 25154, 25302, 25450, 25600],
   [25750, 25902, 26054, 26207, 26361, 26516, 26671, 26828],
   [26986, 27144, 27303, 27464, 27625, 27787, 27951, 28115],
   [28280, 28446, 28613, 28781, 28950, 29120, 29291, 29463],
   [29637, 29811, 29986, 30162, 30339, 30517, 30697, 30877]]

/-- `FREQMAP[384]` to `FREQMAP[511]` as R240 lists them, eight to a row. -/
def freqMapRows3 : List (List Nat) :=
  [[31058, 31241, 31424, 31609, 31794, 31981, 32169, 32358],
   [32548, 32739, 32932, 33125, 33320, 33515, 33712, 33910],
   [34109, 34310, 34511, 34714, 34918, 35123, 35329, 35537],
   [35746, 35955, 36167, 36379, 36593, 36808, 37024, 37241],
   [37460, 37680, 37902, 38124, 38348, 38573, 38800, 39028],
   [39257, 39488, 39720, 39953, 40188, 40424, 40661, 40900],
   [41140, 41382, 41625, 41869, 42115, 42363, 42612, 42862],
   [43114, 43367, 43622, 43878, 44136, 44395, 44656, 44918],
   [45182, 45447, 45714, 45983, 46253, 46525, 46798, 47073],
   [47349, 47627, 47907, 48188, 48472, 48756, 49043, 49331],
   [49620, 49912, 50205, 50500, 50797, 51095, 51395, 51697],
   [52001, 52306, 52613, 52922, 53233, 53546, 53861, 54177],
   [54495, 54815, 55137, 55461, 55787, 56115, 56444, 56776],
   [57109, 57445, 57782, 58122, 58463, 58806, 59152, 59499],
   [59849, 60200, 60554, 60910, 61267, 61627, 61989, 62353],
   [62720, 63088, 63459, 63831, 64206, 64583, 64963, 65344]]

/-- `FREQMAP[512]` to `FREQMAP[639]` as R240 lists them, eight to a row. -/
def freqMapRows4 : List (List Nat) :=
  [[65728, 66114, 66503, 66893, 67286, 67681, 68079, 68479],
   [68881, 69286, 69693, 70102, 70514, 70928, 71345, 71764],
   [72185, 72609, 73036, 73465, 73896, 74330, 74767, 75206],
   [75648, 76092, 76539, 76989, 77441, 77896, 78354, 78814],
   [79277, 79742, 80211, 80682, 81156, 81633, 82112, 82594],
   [83080, 83568, 84058, 84552, 85049, 85548, 86051, 86556],
   [87065, 87576, 88091, 88608, 89129, 89652, 90179, 90708],
   [91241, 91777, 92316, 92858, 93404, 93953, 94504, 95060],
   [95618, 96180, 96745, 97313, 97884, 98459, 99038, 99619],
   [100205, 100793, 101385, 101981, 102580, 103182, 103789, 104398],
   [105011, 105628, 106249, 106873, 107501, 108132, 108767, 109406],
   [110049, 110695, 111345, 111999, 112657, 113319, 113985, 114654],
   [115328, 116005, 116686, 117372, 118061, 118755, 119452, 120154],
   [120860, 121570, 122284, 123002, 123725, 124451, 125182, 125918],
   [126657, 127401, 128150, 128902, 129660, 130421, 131187, 131958],
   [132733, 133513, 134297, 135086, 135879, 136677, 137480, 138288]]

/-- `FREQMAP[640]` to `FREQMAP[767]` as R240 lists them, eight to a row. -/
def freqMapRows5 : List (List Nat) :=
  [[139100, 139917, 140739, 141566, 142397, 143234, 144075, 144921],
   [145773, 146629, 147490, 148356, 149228, 150104, 150986, 151873],
   [152765, 153662, 154565, 155473, 156386, 157305, 158229, 159158],
   [160093, 161033, 161979, 162931, 163888, 164851, 165819, 166793],
   [167773, 168758, 169749, 170746, 171749, 172758, 173773, 174794],
   [175820, 176853, 177892, 178937, 179988, 181045, 182109, 183178],
   [184254, 185337, 186425, 187520, 188622, 189730, 190844, 191965],
   [193093, 194227, 195368, 196516, 197670, 198831, 199999, 201174],
   [202355, 203544, 204740, 205942, 207152, 208369, 209593, 210824],
   [212062, 213308, 214561, 215821, 217089, 218364, 219647, 220937],
   [222235, 223540, 224853, 226174, 227502, 228839, 230183, 231535],
   [232895, 234263, 235639, 237023, 238416, 239816, 241225, 242642],
   [244067, 245500, 246943, 248393, 249852, 251320, 252796, 254281],
   [255774, 257277, 258788, 260308, 261837, 263375, 264922, 266478],
   [268044, 269618, 271202, 272795, 274397, 276009, 277630, 279261],
   [280902, 282552, 284211, 285881, 287560, 289249, 290948, 292657]]

/-- `FREQMAP[768]` to `FREQMAP[895]` as R240 lists them, eight to a row. -/
def freqMapRows6 : List (List Nat) :=
  [[294376, 296105, 297845, 299594, 301354, 303124, 304905, 306696],
   [308497, 310309, 312132, 313965, 315810, 317665, 319531, 321407],
   [323295, 325194, 327105, 329026, 330959, 332903, 334858, 336825],
   [338804, 340794, 342795, 344809, 346834, 348872, 350921, 352982],
   [355056, 357141, 359239, 361349, 363472, 365607, 367754, 369915],
   [372087, 374273, 376471, 378683, 380907, 383145, 385395, 387659],
   [389936, 392227, 394530, 396848, 399179, 401524, 403882, 406255],
   [408641, 411041, 413456, 415884, 418327, 420784, 423256, 425742],
   [428243, 430759, 433289, 435834, 438394, 440969, 443559, 446165],
   [448785, 451422, 454073, 456740, 459423, 462122, 464836, 467567],
   [470313, 473076, 475855, 478650, 481461, 484289, 487134, 489996],
   [492874, 495769, 498681, 501610, 504557, 507520, 510502, 513500],
   [516516, 519550, 522602, 525672, 528760, 531866, 534990, 538132],
   [541293, 544473, 547671, 550888, 554124, 557379, 560653, 563946],
   [567259, 570591, 573942, 577314, 580705, 584116, 587547, 590998],
   [594469, 597961, 601474, 605007, 608561, 612135, 615731, 619348]]

/-- `FREQMAP[896]` to `FREQMAP[1023]` as R240 lists them, eight to a row. -/
def freqMapRows7 : List (List Nat) :=
  [[622986, 626645, 630326, 634028, 637753, 641499, 645267, 649057],
   [652870, 656705, 660562, 664442, 668345, 672271, 676220, 680192],
   [684187, 688206, 692249, 696315, 700405, 704519, 708657, 712820],
   [717007, 721219, 725455, 729716, 734003, 738314, 742651, 747013],
   [751401, 755815, 760255, 764720, 769212, 773730, 778275, 782847],
   [787445, 792071, 796723, 801403, 806111, 810846, 815608, 820399],
   [825218, 830066, 834941, 839846, 844779, 849741, 854732, 859753],
   [864803, 869883, 874993, 880132, 885302, 890502, 895733, 900995],
   [906287, 911611, 916965, 922351, 927769, 933219, 938701, 944215],
   [949761, 955340, 960951, 966596, 972274, 977985, 983729, 989508],
   [995320, 1001166, 1007047, 1012962, 1018913, 1024898, 1030918, 1036973],
   [1043064, 1049191, 1055354, 1061553, 1067789, 1074061, 1080370, 1086716],
   [1093099, 1099520, 1105979, 1112475, 1119010, 1125583, 1132194, 1138845],
   [1145534, 1152263, 1159031, 1165839, 1172688, 1179576, 1186505, 1193474],
   [1200484, 1207536, 1214629, 1221764, 1228940, 1236159, 1243420, 1250724],
   [1258071, 1265460, 1272894, 1280371, 1287891, 1295456, 1303066, 1310720]]

/-- `FREQMAP`, all 1024 entries of the default instance (R240), eight to a row. -/
def freqMapRows : List (List Nat) :=
  freqMapRows0 ++ freqMapRows1 ++ freqMapRows2 ++ freqMapRows3 ++ freqMapRows4 ++ freqMapRows5 ++
    freqMapRows6 ++ freqMapRows7

/-- `FREQMAP[k]` of the default instance, as the listing gives it (R240). -/
def freqMapEntry (k : Nat) : Nat := (freqMapRows.getD (k / 8) []).getD (k % 8) 0

/-- The open parameters of R11 that are data: the model takes them as arguments. State holds them, where no
step changes them (R12, R65; notes/assumptions/12.md), so that a statement for every state is a statement
for every value of them. -/
structure Params where
  /-- `FREQMAP[0]`, `FREQMAP[1]`, …: a `FREQ` code for each code `k` (R11, R74) -/
  freqMap : List FreqCode
  /-- `SCHED_ADVANCE` (R11) -/
  schedAdvance : SchedAdvance
  deriving DecidableEq, Repr

/-- The default instances of R11: the table of R240 and `grid`. -/
def defaultParams : Params where
  freqMap := (List.range 1024).map fun k => BitVec.ofNat 24 (freqMapEntry k)
  schedAdvance := .grid

/-- The entry of a waveform table at an index `a` in 0..255 (R62, R63, R64). -/
def tableEntry (t : Table) (a : Nat) : Nat :=
  match t with
  | .tri => if a < 128 then 2 * a else 511 - 2 * a
  | .sqr => if a < 128 then 255 else 0
  | .sin => (sineRows.getD (a / 16) []).getD (a % 16) 0

/-- FREE VALUE. The answers of the random source (R11 `RNG`, R39, R150, U7): `Config.rng n` is what the
source says to the `n`-th draw since the machine exists. No body: nothing in Lean can evaluate it, and
`Machine.draw` brings it into the range asked for, the only property a draw has. -/
opaque Config.rng : Nat → Nat

end Sys2Proof
end

