-- ==== Sys2Proof/Machine/State.lean ====
section
/-!
DEFINITION. The state of QMOD-LFO (10_state.md R20 to R45), as plain data, and its value after reset
(R45, R271). Fixed-point registers hold their raw integer, value times 2^32 (R43); unsigned ones are
`Nat`, the signed `RS_STEP` is `Int`, and no rule relies on a wrap (R43, notes/assumptions/11.md).
The block has no writable memory (R65), so State holds none.
-/

namespace Sys2Proof.Machine

/-- `RT_ST[i]`, 1 bit (R31, R88): the two states of the ratchet (R194). -/
inductive RatchetState where
  /-- 0 = Bursting -/
  | bursting
  /-- 1 = Paused -/
  | paused
  deriving DecidableEq, Repr

/-- The registers of one channel: general (R21 to R24) and auxiliary (R29 to R35). Every channel holds
all of them at all times, whatever its kind is (R36). -/
structure Channel where
  /-- `KIND`, 4 bits (R21) -/
  kind : KindCode
  /-- `FREQ`, 24 bits, hertz times 65536 (R22) -/
  freq : FreqCode
  /-- `PHASE`, fix, unsigned, unbounded (R23) -/
  phase : Nat
  /-- `OUT`, 8 bits (R24) -/
  out : Byte
  /-- `RS_CUR`, fix, unsigned (R29) -/
  rsCur : Nat
  /-- `RS_TGT`, 8 bits (R29) -/
  rsTgt : Byte
  /-- `RS_STEP`, fix, signed (R29) -/
  rsStep : Int
  /-- `RS_LAST`, `TIME_BITS` bits, milliseconds (R29) -/
  rsLast : Time
  /-- `WK_CNT` (R30) -/
  wkCnt : Nat
  /-- `WK_DUR` (R30) -/
  wkDur : Nat
  /-- `WK_MULT`, fix, unsigned (R30) -/
  wkMult : Nat
  /-- `RT_ST`, 1 bit (R31) -/
  rtSt : RatchetState
  /-- `RT_CNT` (R31) -/
  rtCnt : Nat
  /-- `RT_BDUR` (R31) -/
  rtBdur : Nat
  /-- `RT_PCNT` (R31) -/
  rtPcnt : Nat
  /-- `RT_PDUR` (R31) -/
  rtPdur : Nat
  /-- `RT_BCOUNT` (R31) -/
  rtBcount : Nat
  /-- `RT_MAXB` (R31) -/
  rtMaxb : Nat
  /-- `RT_MULT`, a whole number (R31) -/
  rtMult : Nat
  /-- `TS_SEL`, 2 bits (R32) -/
  tsSel : BitVec 2
  /-- `TS_PHASE`, fix, unsigned, unbounded (R32) -/
  tsPhase : Nat
  /-- `SW_BREATH`, fix, unsigned, unbounded (R33) -/
  swBreath : Nat
  /-- `SW_SP0`, fix, unsigned, unbounded (R33) -/
  swSp0 : Nat
  /-- `SW_SP1`, fix, unsigned, unbounded (R33) -/
  swSp1 : Nat
  /-- `SW_SP2`, fix, unsigned, unbounded (R33) -/
  swSp2 : Nat
  /-- `PN_PHASE`, fix, unsigned, unbounded (R34) -/
  pnPhase : Nat
  /-- `GV_CUR`, fix, unsigned, hertz (R35) -/
  gvCur : Nat
  /-- `GV_TGT`, fix, unsigned, hertz (R35) -/
  gvTgt : Nat
  deriving DecidableEq, Repr

/-- The four channels, "an explicit array of four independent Channel value objects" (R20, R261). -/
structure Bank where
  /-- channel 0 -/
  c0 : Channel
  /-- channel 1 -/
  c1 : Channel
  /-- channel 2 -/
  c2 : Channel
  /-- channel 3 -/
  c3 : Channel
  deriving DecidableEq, Repr

/-- The registers of channel `i`. -/
def Bank.get (b : Bank) (i : ChIx) : Channel :=
  match i with
  | 0 => b.c0
  | 1 => b.c1
  | 2 => b.c2
  | 3 => b.c3

/-- The bank with the registers of channel `i` replaced. -/
def Bank.set (b : Bank) (i : ChIx) (c : Channel) : Bank :=
  match i with
  | 0 => { b with c0 := c }
  | 1 => { b with c1 := c }
  | 2 => { b with c2 := c }
  | 3 => { b with c3 := c }

/-- MODEL'S OWN (R39, R150; notes/assumptions/4.md). The random source as the engine meets it: the answers
the host has already fixed for the draws to come, and how many draws have been taken. A draw with no
fixed answer takes the free value `Config.rng taken`. -/
structure Rand where
  /-- answers fixed in advance for the next draws, first one first -/
  answers : List Int
  /-- draws taken so far -/
  taken : Nat
  deriving DecidableEq, Repr

/-- MODEL'S OWN. What the host presents at the command port and the clock port together (R80). -/
structure Command where
  /-- the command word -/
  word : CmdWord
  /-- the value of `NOW_US` presented with it -/
  now : Time
  deriving DecidableEq, Repr

/-- MODEL'S OWN (R106, R110; notes/assumptions/1.md). The operands a pass hands to one update operation,
and whether the next step is such an update, taken by itself. Between commands `live` is false. -/
structure Handover where
  /-- the next step runs the update of `chan`, not a command -/
  live : Bool
  /-- the channel `i` of `Update(KIND[i], i, m, t_ms)` -/
  chan : ChIx
  /-- the modulator `m` -/
  modulator : Byte
  /-- the wall-clock milliseconds `t_ms` -/
  tMs : Time
  deriving DecidableEq, Repr

/-- The state of the machine: the registers of R20, then the model's own fields (the random source of R39, the
host's side of the ports, and the open parameters of R11, which R40 calls no state and no step changes). -/
structure State where
  /-- the per-channel registers (R21 to R24, R29 to R35) -/
  bank : Bank
  /-- `SEL`, 2 bits (R25) -/
  sel : BitVec 2
  /-- `TREF`, 64 bits, microseconds (R26) -/
  tref : Time
  /-- `TICKED`, 1 bit (R27) -/
  ticked : Bool
  /-- model's own: the random source (R39) -/
  rand : Rand
  /-- model's own: the clock value presented with the command being executed, or last executed (R104) -/
  now : Time
  /-- model's own: the commands the host is going to present, first one first (R120) -/
  port : List Command
  /-- model's own: the operands of an update taken by itself (R110) -/
  hand : Handover
  /-- model's own: the open parameters `FREQMAP` and `SCHED_ADVANCE` (R11) -/
  params : Params
  deriving DecidableEq, Repr

/-- The hardware stops with a fault: it never does ("No exception exists", R245), so there is none. -/
inductive Fault where
  deriving DecidableEq, Repr

/-- Why the model has no next state. -/
inductive Refusal where
  /-- Raised by `exec`'s arms for an instruction without a meaning yet; none is left. Safe. -/
  | notModelled (mnemonic : String)
  /-- Raised by a due `POLL`, and by a step that dispatches an update, when a `KIND[i]` holds 12 to 15,
  which names no kind: "a model whose type allows them should make the pass refuse" (R87, U5). No state
  that a run reaches holds one. Safe. -/
  | noSuchKind (code : KindCode)
  /-- Raised by `step` when a command comes with a clock value below the one before it: "a model must
  refuse such a command stream" (R104, U4). Safe. -/
  | clockWentBack (before presented : Time)
  deriving DecidableEq, Repr

/-- The outcome of a step or of an instruction. -/
abbrev Result := Host.Outcome State Fault Refusal

/-- A channel after reset, but for `TS_SEL`, which reset draws (R45). -/
def Channel.reset (tsSel : BitVec 2) : Channel where
  kind := 0
  freq := 0x010000
  phase := 0
  out := 0
  rsCur := 128 * 2 ^ 32
  rsTgt := 128
  rsStep := 0
  rsLast := 0
  wkCnt := 0
  wkDur := 200
  wkMult := 1 * 2 ^ 32
  rtSt := .bursting
  rtCnt := 0
  rtBdur := 80
  rtPcnt := 0
  rtPdur := 100
  rtBcount := 0
  rtMaxb := 3
  rtMult := 4
  tsSel := tsSel
  tsPhase := 0
  swBreath := 0
  swSp0 := 0
  swSp1 := 0
  swSp2 := 0
  pnPhase := 0
  gvCur := 1 * 2 ^ 32
  gvTgt := 1 * 2 ^ 32

/-- `TS_SEL` as the free answer to the `n`-th draw gives it: `draw(0, 3)` (R45, R271). -/
def resetRatio (n : Nat) : BitVec 2 := BitVec.ofNat 2 (Config.rng n % 4)

/-- The machine with the parameters `p` right after power-on reset (R45, R270, R271): the four `TS_SEL` draws
are the first four of the random source and free values; the clock value of that moment is 0 (DESIGN CHOICE,
notes/assumptions/3.md); the host has presented nothing yet. -/
def State.powerOn (p : Params) : State where
  bank :=
    { c0 := Channel.reset (resetRatio 0)
      c1 := Channel.reset (resetRatio 1)
      c2 := Channel.reset (resetRatio 2)
      c3 := Channel.reset (resetRatio 3) }
  sel := 0
  tref := 0
  ticked := false
  rand := { answers := [], taken := 4 }
  now := 0
  port := []
  hand := { live := false, chan := 0, modulator := 0, tMs := 0 }
  params := p

/-- The machine right after power-on reset with the default instances of the parameters (R11; that they stand in
State is the model's, notes/assumptions/12.md). -/
def State.reset : State := State.powerOn defaultParams

end Sys2Proof.Machine
end

