-- ==== Sys2Proof/Machine/Draws.lean ====
section
/-!
DEFINITION. Random draws (42_primitives_and_numerics.md R150, R151; 60_exceptions.md R254). A draw's result
is a free input of the step, constrained only to its range. An answer the host fixed in advance
(`Rand.answers`) is taken when it lies in the range; otherwise the value is free (notes/assumptions/4.md
and 5.md).
-/

namespace Sys2Proof.Machine

/-- The free value of the `n`-th draw, brought into `lo .. hi` (R150). -/
def freeDraw (n : Nat) (lo hi : Int) : Int := lo + (Config.rng n : Int) % (hi - lo + 1)

/-- The random source after one more draw. -/
def Rand.advance (r : Rand) : Rand := { answers := r.answers.tail, taken := r.taken + 1 }

/-- The whole number that `draw(lo, hi)` returns (R150). -/
def drawValue (r : Rand) (lo hi : Int) : Int :=
  match r.answers with
  | [] => freeDraw r.taken lo hi
  | a :: _ => if lo ≤ a ∧ a ≤ hi then a else freeDraw r.taken lo hi

/-- `draw(lo, hi)`: the number returned, and the random source afterwards (R150). -/
def draw (r : Rand) (lo hi : Int) : Int × Rand := (drawValue r lo hi, r.advance)

/-- `chance(p, d)`: one draw, true for `p` of the `d` possible values (R151). -/
def chance (r : Rand) (p d : Int) : Bool × Rand :=
  (decide ((draw r 0 (d - 1)).1 < p), (draw r 0 (d - 1)).2)

end Sys2Proof.Machine
end

