-- ==== Sys2Proof/Machine/Numerics.lean ====
section
/-!
DEFINITION. The numeric primitives every waveform rule uses (42_primitives_and_numerics.md R140 to R149):
expressions are exact rationals, and a value is rounded only where a rule calls `Q`, `Qc`, `clampQ`, `q8`
or `unbip` (R156).
-/

namespace Sys2Proof.Machine

/-- `2^F`, the number of grid steps in one unit (R140). -/
def gridScale : Nat := 2 ^ cfg.fracBits

/-- The value of a fixed-point register that holds the raw integer `raw` (R43). -/
def fixVal (raw : Int) : ℚ := raw / gridScale

/-- `Q(x)` as a raw integer: the greatest grid value not above `x` (R141). -/
def Q (x : ℚ) : Int := ⌊x * gridScale⌋

/-- `Qc(x)` as a raw integer: the least grid value not below `x` (R142). -/
def Qc (x : ℚ) : Int := ⌈x * gridScale⌉

/-- `clamp(x, lo, hi)` on rationals (R143). -/
def clamp (x lo hi : ℚ) : ℚ := if x < lo then lo else if hi < x then hi else x

/-- `clamp(x, lo, hi)` on whole numbers, which is also `clamp` on grid values by their raw integers (R143). -/
def clampInt (x lo hi : Int) : Int := if x < lo then lo else if hi < x then hi else x

/-- `clampQ(x, lo, hi)` as a raw integer (R144). -/
def clampQ (x lo hi : ℚ) : Int := clampInt (Q x) (Qc lo) (Q hi)

/-- `q8(x)`: round to nearest, halves upward, and saturate to 8 bits (R145). -/
def q8 (x : ℚ) : Byte := BitVec.ofInt 8 (clampInt ⌊x + 1 / 2⌋ 0 255)

/-- `bip(s)`: a sample as a number in [−1, +1] (R146). -/
def bip (s : Byte) : ℚ := (2 * (s.toNat : ℚ) - 255) / 255

/-- `unbip(y)`: a number in [−1, +1] as a sample (R147). -/
def unbip (y : ℚ) : Byte := q8 ((y + 1) * (255 / 2))

/-- `idx(p) = floor(p) mod 256` of a phase register's raw integer (R148). -/
def idx (p : Nat) : Byte := BitVec.ofNat 8 (p / gridScale % cfg.tableSize)

/-- `SAMPLE_RATE = 10^6 / TICK_US` (R6). -/
def sampleRate : ℚ := 10 ^ 6 / (cfg.tickUs : ℚ)

/-- `inc(f) = f × TABLE_SIZE / SAMPLE_RATE` (R149). -/
def inc (f : ℚ) : ℚ := f * (cfg.tableSize : ℚ) / sampleRate

/-- Advance a phase register at the frequency `f`: `P <- Q(P + inc(f))` (R149). -/
def advance (p : Nat) (f : ℚ) : Nat := (Q (fixVal p + inc f)).toNat

end Sys2Proof.Machine
end

