-- ==== Sys2Proof/Machine/Ops.lean ====
section
/-!
DEFINITION. The shared operations over registers and tables: reading and replacing a channel, reading a
table (the block's only memory, 20_memory.md R60 to R68), applying an update to a channel, the start-up
operation (70_reset_and_hazards.md R271), and the ports (R85, R127, R258). The spec gives the machine no
exception to take and none to return from (60_exceptions.md R245, R249), so no operation for it stands here.
-/

namespace Sys2Proof.Machine

/-- The registers of channel `i`: `X[i]` is a field of it (00_scope.md, Notation). -/
def State.ch (s : State) (i : ChIx) : Channel := s.bank.get i

/-- Replace the registers of channel `i`. -/
def State.setCh (s : State) (i : ChIx) (c : Channel) : State := { s with bank := s.bank.set i c }

/-- `MemRead(T, a, 1)`: one byte of a table (R60, R61, R68). -/
def memRead (t : Table) (a : Byte) : Byte := BitVec.ofNat 8 (tableEntry t a.toNat)

/-- The lookup of table `T` at a phase, `T[idx(p)]` (R61, R148). -/
def lookup (t : Table) (p : Nat) : Byte := memRead t (idx p)

/-- `FREQMAP[k]` of the table the machine has (R74). A table shorter than R74 asks for reads as 0 beyond its
end; no admissible table is (R241, `Params.Admissible`). -/
def State.freqMap (s : State) (k : MapCode) : FreqCode := s.params.freqMap.getD k.toNat 0

/-- The update operation of a waveform kind: from the channel's own registers, the modulator `m`, the time
`t_ms` and the random source to the channel's registers with the sample in `out`, and the random source
after its draws. It can touch no other channel and no global register (R37, R110, R112). -/
abbrev Update := Channel → Byte → Time → Rand → Channel × Rand

/-- Run an update on channel `i` with the modulator `m` and the time `tMs` (R106, R109). -/
def State.update (s : State) (u : Update) (i : ChIx) (m : Byte) (tMs : Time) : State :=
  { s.setCh i (u (s.ch i) m tMs s.rand).1 with rand := (u (s.ch i) m tMs s.rand).2 }

/-- Run an update by itself, with the operands handed over in `hand`, which it uses up (R110). -/
def State.runUpdate (s : State) (u : Update) : State :=
  { s.update u s.hand.chan s.hand.modulator s.hand.tMs with
    hand := { s.hand with live := false } }

/-- The `TS_SEL` that `draw(0, 3)` gives (R271). -/
def drawRatio (r : Rand) : BitVec 2 := BitVec.ofInt 2 (draw r 0 3).1

/-- The start-up operation at the sampled clock value `s.now` (R129, R271): every register takes its reset
value, `TS_SEL[0..3]` are drawn in channel order, `TREF` takes the clock value. -/
def State.restart (s : State) : State :=
  { s with
    bank :=
      { c0 := Channel.reset (drawRatio s.rand)
        c1 := Channel.reset (drawRatio s.rand.advance)
        c2 := Channel.reset (drawRatio s.rand.advance.advance)
        c3 := Channel.reset (drawRatio s.rand.advance.advance.advance) }
    sel := 0
    tref := s.now
    ticked := false
    rand := s.rand.advance.advance.advance.advance }

/-- The status port `KIND[i]` (R127). -/
def State.kindPort (s : State) (i : ChIx) : KindCode := (s.ch i).kind

/-- The status port `SEL` (R127). -/
def State.selPort (s : State) : BitVec 2 := s.sel

/-- The output port `OUT[i]` (R258). -/
def State.outPort (s : State) (i : ChIx) : Byte := (s.ch i).out

/-- The one-bit response of `POLL` (R85): the value of `TICKED`. -/
def State.response (s : State) : BitVec 1 := BitVec.ofBool s.ticked

end Sys2Proof.Machine
end

