-- ==== Sys2Proof/Machine/Operands.lean ====
section
/-!
DEFINITION. The operands the updates and the scheduler compute with: the base frequency (R22), the ring
(R154), the source sample and the snapshot (R107, R155), the elapsed time (R101) and the wall-clock
milliseconds (R105).
-/

namespace Sys2Proof.Machine

/-- `b = FREQ[i] / 65536`, the base frequency in hertz, exact (R22, R170). -/
def baseFreq (c : Channel) : ℚ := (c.freq.toNat : ℚ) / 2 ^ cfg.hzFracBits

/-- `src(i) = (i + RING_OFFSET) mod N_CH`: the channel that modulates channel `i` (R154). -/
def src (i : ChIx) : ChIx := Fin.ofNat 4 ((i.val + cfg.ringOffset) % cfg.nCh)

/-- `SrcSample(j)`, from the registers of channel `j` alone (R155). -/
def srcSample (c : Channel) : Byte :=
  if c.kind = 1 then lookup .sqr c.phase
  else if c.kind = 2 then lookup .sin c.phase
  else if c.kind = 3 then q8 (fixVal c.rsCur)
  else lookup .tri c.phase

/-- The snapshot entry `S[j]` of the state at the start of a pass (R38, R107). -/
def State.snapshot (s : State) (j : ChIx) : Byte := srcSample (s.ch j)

/-- `t_ms = now div 1000` (R105). -/
def State.tMs (s : State) : Time := s.now / 1000

/-- `d = now − TREF`, the unsigned 64-bit subtraction of the hardware (R101, R104). -/
def State.elapsed (s : State) : Nat := (s.now - s.tref).toNat

/-- The channel `SEL` selects (R25, R125). -/
def State.selected (s : State) : ChIx := Fin.ofNat 4 s.sel.toNat

end Sys2Proof.Machine
end

