-- ==== Sys2Proof/Syntax.lean ====
section
/-!
DEFINITION. The instructions of QMOD-LFO: the eight host commands (30_encoding.md R82) and the twelve
waveform update operations that a kind code selects (R86, R110). One constructor per row of
spec/opcode_table.json.
-/

namespace Sys2Proof

/-- The operand `d` of `WADV` (R83, R88): 0 is +1, 1 is −1. -/
inductive Direction where
  /-- `d = 0`: +1 -/
  | plusOne
  /-- `d = 1`: −1 -/
  | minusOne
  deriving DecidableEq, Repr

/-- An instruction: a command with its operands (R82, R83), or the update operation of a waveform kind,
which has no operand of its own (its channel, modulator and time are handed over by the pass, R110). -/
inductive Instr where
  /-- `NOP` (R100) -/
  | nop
  /-- `RESET` (R129, R271) -/
  | reset
  /-- `POLL` (R101) -/
  | poll
  /-- `SETHZ ch, #code` (R121) -/
  | sethz (ch : ChIx) (code : FreqCode)
  /-- `SETN ch, k` (R122) -/
  | setn (ch : ChIx) (k : MapCode)
  /-- `LOADK ch, v` (R124) -/
  | loadk (ch : ChIx) (v : Byte)
  /-- `WADV d` (R125) -/
  | wadv (d : Direction)
  /-- `SELNX` (R126) -/
  | selnx
  /-- `TRI`, Triangle, kind 0 (R171) -/
  | tri
  /-- `SQR`, Square, kind 1 (R172) -/
  | sqr
  /-- `SIN`, Sine, kind 2 (R173) -/
  | sin
  /-- `RSL`, Random Slope, kind 3 (R181) -/
  | rsl
  /-- `WNK`, Wonky Triangle, kind 4 (R186) -/
  | wnk
  /-- `FM`, Frequency Modulation, kind 5 (R211) -/
  | fm
  /-- `RAT`, Ratchet Triangle, kind 6 (R195) -/
  | rat
  /-- `TSN`, TriSine, kind 7 (R213) -/
  | tsn
  /-- `AM`, Amplitude Modulation, kind 8 (R215) -/
  | am
  /-- `SWM`, Swarm, kind 9 (R217) -/
  | swm
  /-- `PEN`, Pendulum, kind 10 (R219) -/
  | pen
  /-- `GRV`, Gravity, kind 11 (R201) -/
  | grv
  deriving DecidableEq, Repr

end Sys2Proof
end

