-- ==== Sys2Proof/Machine/Control.lean ====
section
/-!
DEFINITION. The control commands `SETHZ`, `SETN`, `LOADK`, `WADV`, `SELNX`, `RESET`
(41_control_commands.md R120 to R129). Each writes the register its rule names and nothing else (R128).
-/

namespace Sys2Proof.Machine

/-- `FREQ[ch] <- code` (R22). -/
def State.setFreq (s : State) (ch : ChIx) (code : FreqCode) : State :=
  s.setCh ch { s.ch ch with freq := code }

/-- `KIND[ch] <- k` (R21). -/
def State.setKind (s : State) (ch : ChIx) (k : KindCode) : State :=
  s.setCh ch { s.ch ch with kind := k }

/-- `(KIND + 1) mod 12` or `(KIND + 11) mod 12` (R125, R153). -/
def kindAfter (d : Direction) (k : KindCode) : KindCode :=
  match d with
  | .plusOne => BitVec.ofNat 4 ((k.toNat + 1) % cfg.nKinds)
  | .minusOne => BitVec.ofNat 4 ((k.toNat + 11) % cfg.nKinds)

/-- `SETHZ ch, code` (R121): stored as it is, no clamp. -/
def execSethz (ch : ChIx) (code : FreqCode) (s : State) : Result := .next (s.setFreq ch code)

/-- `SETN ch, k` (R122): `FREQ[ch] <- FREQMAP[k]`, whatever table the parameter is (R123). -/
def execSetn (ch : ChIx) (k : MapCode) (s : State) : Result := .next (s.setFreq ch (s.freqMap k))

/-- `LOADK ch, v` (R124): `KIND[ch] <- v` when `v ≤ 11`, else nothing. -/
def execLoadk (ch : ChIx) (v : Byte) (s : State) : Result :=
  .next (if v.toNat < cfg.nKinds then s.setKind ch (BitVec.ofNat 4 v.toNat) else s)

/-- `WADV d` (R125): on the selected channel. -/
def execWadv (d : Direction) (s : State) : Result :=
  .next (s.setKind s.selected (kindAfter d (s.ch s.selected).kind))

/-- `SELNX` (R126): `SEL <- (SEL + 1) mod 4`. -/
def execSelnx (s : State) : Result :=
  .next { s with sel := BitVec.ofNat 2 ((s.sel.toNat + 1) % cfg.nCh) }

/-- `RESET` (R129): the start-up of R271 at the clock value presented with the command. -/
def execReset (s : State) : Result := .next s.restart

end Sys2Proof.Machine
end

