-- ==== Sys2Proof/Decode.lean ====
section
/-!
DEFINITION. The decoder and the encoder (30_encoding.md R80 to R92). Two things are encoded (R80): a
command, one 32-bit word, and a waveform kind, a 4-bit code. Decoding a command looks at `OP` alone
(R81, R89) and ignores every field the command does not use (R83). Both decoders are total: what names
no instruction is rejected by name.
-/

namespace Sys2Proof

/-- Why a word is no instruction. -/
inductive Reject where
  /-- `OP` is 0x8 to 0xF: a reserved command, which the hardware executes as `NOP` (R84) -/
  | reservedOpcode (op : BitVec 4)
  /-- 12 to 15: no waveform kind (R87) -/
  | noSuchKind (code : KindCode)
  deriving DecidableEq, Repr

/-- `OP = w[31:28]` (R81). -/
def opField (w : CmdWord) : BitVec 4 := w.extractLsb' 28 4

/-- `CH = w[27:26]` (R81). -/
def chField (w : CmdWord) : ChIx := Fin.ofNat 4 (w.extractLsb' 26 2).toNat

/-- `IMM = w[23:0]` (R81). -/
def immField (w : CmdWord) : BitVec 24 := w.extractLsb' 0 24

/-- The operand `d = IMM[0]` of `WADV` (R83). -/
def dirField (w : CmdWord) : Direction :=
  if (immField w).extractLsb' 0 1 = 0#1 then .plusOne else .minusOne

/-- The command decoder: the opcode map of R82 and the operand assembly of R83. -/
def decodeCommand (w : CmdWord) : Except Reject Instr :=
  match (opField w).toNat with
  | 0 => .ok .nop
  | 1 => .ok .reset
  | 2 => .ok .poll
  | 3 => .ok (.sethz (chField w) (immField w))
  | 4 => .ok (.setn (chField w) ((immField w).extractLsb' 0 10))
  | 5 => .ok (.loadk (chField w) ((immField w).extractLsb' 0 8))
  | 6 => .ok (.wadv (dirField w))
  | 7 => .ok .selnx
  | _ => .error (.reservedOpcode (opField w))

/-- The kind decoder: the code is the position of the kind in the source's list (R86, R87). -/
def decodeKind (k : KindCode) : Except Reject Instr :=
  match k.toNat with
  | 0 => .ok .tri
  | 1 => .ok .sqr
  | 2 => .ok .sin
  | 3 => .ok .rsl
  | 4 => .ok .wnk
  | 5 => .ok .fm
  | 6 => .ok .rat
  | 7 => .ok .tsn
  | 8 => .ok .am
  | 9 => .ok .swm
  | 10 => .ok .pen
  | 11 => .ok .grv
  | _ => .error (.noSuchKind k)

/-- An encoded instruction: a command word, or a kind code (R80). -/
inductive Encoded where
  /-- a word of the command port -/
  | command (w : CmdWord)
  /-- a code of `KIND[i]` -/
  | kind (k : KindCode)
  deriving DecidableEq, Repr

/-- The decoder over both encodings. -/
def decode : Encoded → Except Reject Instr
  | .command w => decodeCommand w
  | .kind k => decodeKind k

/-- A command word from its fields `OP`, `CH`, `Z = 0`, `IMM` (R81). -/
def commandWord (op : BitVec 4) (ch : ChIx) (imm : BitVec 24) : CmdWord :=
  op ++ BitVec.ofNat 2 ch.val ++ 0#2 ++ imm

/-- The direction bit of `WADV` (R83, R88). -/
def Direction.code : Direction → BitVec 24
  | .plusOne => 0
  | .minusOne => 1

/-- The encoder: the words the assembler writes, every unused field zero (R81, R82, R83, R86, R90). -/
def encode : Instr → Encoded
  | .nop => .command (commandWord 0x0 0 0)
  | .reset => .command (commandWord 0x1 0 0)
  | .poll => .command (commandWord 0x2 0 0)
  | .sethz ch code => .command (commandWord 0x3 ch code)
  | .setn ch k => .command (commandWord 0x4 ch (k.setWidth 24))
  | .loadk ch v => .command (commandWord 0x5 ch (v.setWidth 24))
  | .wadv d => .command (commandWord 0x6 0 d.code)
  | .selnx => .command (commandWord 0x7 0 0)
  | .tri => .kind 0
  | .sqr => .kind 1
  | .sin => .kind 2
  | .rsl => .kind 3
  | .wnk => .kind 4
  | .fm => .kind 5
  | .rat => .kind 6
  | .tsn => .kind 7
  | .am => .kind 8
  | .swm => .kind 9
  | .pen => .kind 10
  | .grv => .kind 11

/-- The instruction the decoder reads from a table row's bits `w`: a row of the commands has 32 bits, a
row of the kinds has the 4 bits of `KIND` (one byte here, whose upper half is no part of the code). -/
def decodeTableWord (nbits w : Nat) : Option Instr :=
  if nbits ≤ 8 then (decodeKind (BitVec.ofNat 4 w)).toOption
  else (decodeCommand (BitVec.ofNat 32 w)).toOption

end Sys2Proof
end

