-- ==== Sys2Proof/Machine/Basic.lean ====
section
/-!
DEFINITION. The basic waveforms `TRI`, `SQR`, `SIN` (43_basic_waveforms.md R170 to R173): advance the phase,
then look the sample up in the kind's table.
-/

namespace Sys2Proof.Machine

/-- Advance `PHASE` at the frequency `f`, then emit the entry of table `t` at the new phase: the template of
R170, and the last two lines of every kind whose output is a plain lookup. -/
def advanceAndLookup (t : Table) (f : ℚ) (c : Channel) : Channel :=
  { c with phase := advance c.phase f, out := lookup t (advance c.phase f) }

/-- `TRI`, kind 0 (R171). -/
def updateTri : Update := fun c _ _ r => (advanceAndLookup .tri (baseFreq c) c, r)

/-- `SQR`, kind 1 (R172). -/
def updateSqr : Update := fun c _ _ r => (advanceAndLookup .sqr (baseFreq c) c, r)

/-- `SIN`, kind 2 (R173). -/
def updateSin : Update := fun c _ _ r => (advanceAndLookup .sin (baseFreq c) c, r)

/-- The update operation `TRI` on the channel handed over (R110, R171). -/
def execTri (s : State) : Result := .next (s.runUpdate updateTri)

/-- The update operation `SQR` on the channel handed over (R110, R172). -/
def execSqr (s : State) : Result := .next (s.runUpdate updateSqr)

/-- The update operation `SIN` on the channel handed over (R110, R173). -/
def execSin (s : State) : Result := .next (s.runUpdate updateSin)

end Sys2Proof.Machine
end

