-- ==== Sys2Proof/Machine/Crossmod.lean ====
section
/-!
DEFINITION. The cross-modulated and multi-accumulator waveforms `FM`, `TSN`, `AM`, `SWM`, `PEN`
(45_crossmod_waveforms.md R210 to R220). Only `FM` and `AM` use the modulator `m`; none takes a draw.
-/

namespace Sys2Proof.Machine

/-- The instantaneous frequency `fi` of `FM`, transient and exact (R211). -/
def fmFreq (b : ℚ) (m : Byte) : ℚ := clamp (b + cfg.fmDepthHz * bip m) cfg.fmFLo cfg.fmFHi

/-- `FM`, kind 5 (R211). -/
def updateFm : Update := fun c m _ r => (advanceAndLookup .tri (fmFreq (baseFreq c) m) c, r)

/-- `TRISINE_RATIOS[TS_SEL]` (R9, R32). -/
def trisineRatio (sel : BitVec 2) : ℚ := cfg.trisineRatios.getD sel.toNat 0

/-- The sample of `TSN` from the triangle and sine samples read (R213). -/
def trisineMix (tri sin : Byte) : Byte :=
  q8 (clamp (((tri.toNat : ℚ) - 128) - ((sin.toNat : ℚ) - 128) / 2) (-cfg.trisineClamp) cfg.trisineClamp + 128)

/-- `TSN`, kind 7 (R213). -/
def updateTsn : Update := fun c _ _ r =>
  let p := advance c.phase (baseFreq c)
  let q := advance c.tsPhase (baseFreq c * trisineRatio c.tsSel)
  ({ c with phase := p, tsPhase := q, out := trisineMix (lookup .tri p) (lookup .sin q) }, r)

/-- The sample of `AM` from the carrier sample and the modulator (R215). -/
def amMix (carrier m : Byte) : Byte := unbip (clamp (bip carrier * (1 + cfg.amDepth * bip m)) (-1) 1)

/-- `AM`, kind 8 (R215). -/
def updateAm : Update := fun c m _ r =>
  let p := advance c.phase (baseFreq c)
  ({ c with phase := p, out := amMix (lookup .sin p) m }, r)

/-- The breathing amplitude `amp` of `SWM`, 0.1 to 0.9 (R217). -/
def swarmAmp (breath : Byte) : ℚ :=
  cfg.swarmAmpLo + (cfg.swarmAmpHi - cfg.swarmAmpLo) * (breath.toNat : ℚ) / 255

/-- The sample of `SWM` from the breathing, sine and three spike samples (R217). -/
def swarmMix (breath sin sp0 sp1 sp2 : Byte) : Byte :=
  unbip (clamp (swarmAmp breath * bip sin + cfg.swarmWeight0 * bip sp0 + cfg.swarmWeight1 * bip sp1
    + cfg.swarmWeight2 * bip sp2) (-1) 1)

/-- `SWM`, kind 9 (R217): five accumulators. -/
def updateSwm : Update := fun c _ _ r =>
  let p := advance c.phase (baseFreq c)
  let br := advance c.swBreath cfg.swarmBreathHz
  let p0 := advance c.swSp0 (baseFreq c * cfg.swarmRatio0)
  let p1 := advance c.swSp1 (baseFreq c * cfg.swarmRatio1)
  let p2 := advance c.swSp2 (baseFreq c * cfg.swarmRatio2)
  ({ c with
      phase := p
      swBreath := br
      swSp0 := p0
      swSp1 := p1
      swSp2 := p2
      out := swarmMix (lookup .tri br) (lookup .sin p) (lookup .tri p0) (lookup .tri p1) (lookup .tri p2) }, r)

/-- The sample of `PEN` from the two triangle samples (R219). -/
def pendulumMix (a b : Byte) : Byte := unbip (clamp ((bip a + bip b) / 2) (-1) 1)

/-- `PEN`, kind 10 (R219): accumulator A is `PHASE`, accumulator B is `PN_PHASE`. -/
def updatePen : Update := fun c _ _ r =>
  let p := advance c.phase (baseFreq c)
  let q := advance c.pnPhase (baseFreq c * cfg.pendDetune)
  ({ c with phase := p, pnPhase := q, out := pendulumMix (lookup .tri p) (lookup .tri q) }, r)

/-- The update operation `FM` on the channel handed over (R110, R211). -/
def execFm (s : State) : Result := .next (s.runUpdate updateFm)

/-- The update operation `TSN` on the channel handed over (R110, R213). -/
def execTsn (s : State) : Result := .next (s.runUpdate updateTsn)

/-- The update operation `AM` on the channel handed over (R110, R215). -/
def execAm (s : State) : Result := .next (s.runUpdate updateAm)

/-- The update operation `SWM` on the channel handed over (R110, R217). -/
def execSwm (s : State) : Result := .next (s.runUpdate updateSwm)

/-- The update operation `PEN` on the channel handed over (R110, R219). -/
def execPen (s : State) : Result := .next (s.runUpdate updatePen)

end Sys2Proof.Machine
end

