-- ==== Sys2Proof/Machine/Flags.lean ====
section
/-!
DEFINITION. The two single bits of the block (10_state.md R44): what `POLL` writes to `TICKED` (R27, R101),
and when the ratchet's state bit `RT_ST` changes (R194, R195). There are no condition codes.
-/

namespace Sys2Proof.Machine

/-- The new value of `TICKED`: at least one tick interval has gone by (R101). -/
def State.tickDue (s : State) : Bool := cfg.tickUs ≤ s.elapsed

/-- The burst is over: `RT_CNT ≥ RT_BDUR` after the increment (R195). -/
def burstOver (c : Channel) : Bool := c.rtBdur ≤ c.rtCnt + 1

/-- The pause is over: `RT_PCNT ≥ RT_PDUR` after the increment (R195). -/
def pauseOver (c : Channel) : Bool := c.rtPdur ≤ c.rtPcnt + 1

/-- The burst that ends is the last one before a long pause: `RT_BCOUNT ≥ RT_MAXB` after the increment
(R195). -/
def lastBurst (c : Channel) : Bool := c.rtMaxb ≤ c.rtBcount + 1

end Sys2Proof.Machine
end

