-- ==== Sys2Proof/Machine/Generative.lean ====
section
/-!
DEFINITION. The stateful generative waveforms `RSL`, `WNK`, `RAT`, `GRV` (44_generative_waveforms.md R180 to
R202). Each stage of a rule's pseudocode is one definition; the draws are taken in the rule's order.
-/

namespace Sys2Proof.Machine

/-! ## Random Slope -/

/-- The retarget test of R181: `(t_ms − RS_LAST) × FREQ ≥ 1000 × 65536`, the difference in unbounded whole
numbers (R153). -/
def retargetDue (c : Channel) (tMs : Time) : Bool :=
  1000 * 2 ^ cfg.hzFracBits ≤ ((tMs.toNat : Int) - (c.rsLast.toNat : Int)) * (c.freq.toNat : Int)

/-- `Q((RS_TGT − RS_CUR) × b / SAMPLE_RATE)` (R181). -/
def slopeStep (c : Channel) (tgt : Byte) : Int :=
  Q (((tgt.toNat : ℚ) - fixVal c.rsCur) * baseFreq c / sampleRate)

/-- Step 1 of R181: pick a new target when one period has gone by on the wall clock. -/
def retarget (c : Channel) (tMs : Time) (r : Rand) : Channel × Rand :=
  if retargetDue c tMs then
    let tgt : Byte := BitVec.ofInt 8 (draw r 0 255).1
    ({ c with rsLast := tMs, rsTgt := tgt, rsStep := slopeStep c tgt }, (draw r 0 255).2)
  else (c, r)

/-- Step 2 of R181, on raw integers: `v` held at the target if the step would overshoot. -/
def holdAtTarget (v step tgt : Int) : Int :=
  if 0 < step ∧ tgt < v then tgt else if step < 0 ∧ v < tgt then tgt else v

/-- The new `RS_CUR` (R181). -/
def slopeValue (c : Channel) : Nat :=
  (holdAtTarget (c.rsCur + c.rsStep) c.rsStep (c.rsTgt.toNat * gridScale)).toNat

/-- Step 2 of R181: advance every tick, stop at the target, emit the value itself. -/
def slopeAdvance (c : Channel) : Channel :=
  { c with rsCur := slopeValue c, out := q8 (fixVal (slopeValue c)) }

/-- `RSL`, kind 3 (R181). -/
def updateRsl : Update := fun c _ tMs r =>
  (slopeAdvance (retarget c tMs r).1, (retarget c tMs r).2)

/-! ## Wonky Triangle -/

/-- `DriftRange(b)` (R187). -/
def driftRange (b : ℚ) : ℚ :=
  clamp (cfg.wkDriftHi - (cfg.wkDriftHi - cfg.wkDriftLo) * (b - cfg.fMin) / (cfg.fMax - cfg.fMin))
    cfg.wkDriftLo cfg.wkDriftHi

/-- With probability `pct` in 100, move the phase on by `draw(1, hi)` whole index units: the jitter and the
nudge of R186. -/
def phaseKick (pct hi : Int) (c : Channel) (r : Rand) : Channel × Rand :=
  if (chance r pct 100).1 then
    ({ c with phase := c.phase + (draw (chance r pct 100).2 1 hi).1.toNat * gridScale },
      (draw (chance r pct 100).2 1 hi).2)
  else (c, (chance r pct 100).2)

/-- Step 1 of R186: jitter. -/
def wonkyJitter (c : Channel) (r : Rand) : Channel × Rand := phaseKick cfg.wkJitPct cfg.wkJitMax c r

/-- The new hold duration: long with 80 in 100, else short (R186). -/
def wonkyHoldDraw (r : Rand) : Int × Rand :=
  if (chance r cfg.wkLongPct 100).1 then draw (chance r cfg.wkLongPct 100).2 cfg.wkLongLo cfg.wkLongHi
  else draw (chance r cfg.wkLongPct 100).2 cfg.wkShortLo cfg.wkShortHi

/-- The new multiplier before its clamp: a gentle drift with 70 in 100, else a glitch (R186). -/
def wonkyMultDraw (b : ℚ) (r : Rand) : ℚ × Rand :=
  let g := chance r cfg.wkGentlePct 100
  if g.1 then (1 + ((draw g.2 (-100) 100).1 : ℚ) / 100 * driftRange b, (draw g.2 (-100) 100).2)
  else (((draw g.2 cfg.wkGlitchLo cfg.wkGlitchHi).1 : ℚ) / 100, (draw g.2 cfg.wkGlitchLo cfg.wkGlitchHi).2)

/-- Step 2 of R186: count the hold, and when it runs out draw a new hold and a new multiplier. -/
def wonkyHold (c : Channel) (r : Rand) : Channel × Rand :=
  if c.wkDur ≤ c.wkCnt + 1 then
    let dur := wonkyHoldDraw r
    let mult := wonkyMultDraw (baseFreq c) dur.2
    ({ c with
        wkCnt := 0
        wkDur := dur.1.toNat
        wkMult := (clampQ mult.1 cfg.wkMultLo cfg.wkMultHi).toNat }, mult.2)
  else ({ c with wkCnt := c.wkCnt + 1 }, r)

/-- Step 3 of R186: nudge while the multiplier is high. -/
def wonkyNudge (c : Channel) (r : Rand) : Channel × Rand :=
  if cfg.wkNudgeThresh < fixVal c.wkMult then phaseKick cfg.wkNudgePct cfg.wkNudgeMax c r else (c, r)

/-- Step 4 of R186: advance at the drifted frequency and read. -/
def wonkyAdvance (c : Channel) : Channel := advanceAndLookup .tri (baseFreq c * fixVal c.wkMult) c

/-- `WNK`, kind 4 (R186). -/
def updateWnk : Update := fun c _ _ r =>
  let jit := wonkyJitter c r
  let hold := wonkyHold jit.1 jit.2
  let nudge := wonkyNudge hold.1 hold.2
  (wonkyAdvance nudge.1, nudge.2)

/-! ## Ratchet Triangle -/

/-- The pause chosen at the end of a burst, before the stutter test: `(RT_PDUR, RT_BCOUNT, RT_MAXB)` and the
random source (R195). -/
def pauseChoice (c : Channel) (r : Rand) : (Nat × Nat × Nat) × Rand :=
  if lastBurst c then
    let long := draw r cfg.ratLongLo cfg.ratLongHi
    let maxb := draw long.2 cfg.ratMaxbLo cfg.ratMaxbHi
    ((long.1.toNat, 0, maxb.1.toNat), maxb.2)
  else
    let short := draw r cfg.ratShortLo cfg.ratShortHi
    ((short.1.toNat, c.rtBcount + 1, c.rtMaxb), short.2)

/-- The stutter test: with 10 in 100 a very short pause replaces the one chosen (R195). -/
def stutter (pdur : Nat) (r : Rand) : Nat × Rand :=
  let t := chance r cfg.ratStutPct 100
  if t.1 then ((draw t.2 cfg.ratStutLo cfg.ratStutHi).1.toNat, (draw t.2 cfg.ratStutLo cfg.ratStutHi).2)
  else (pdur, t.2)

/-- The Bursting arm of R195. -/
def ratchetBurst (c : Channel) (r : Rand) : Channel × Rand :=
  let p := advance c.phase (baseFreq c * (c.rtMult : ℚ))
  if burstOver c then
    let choice := pauseChoice c r
    let st := stutter choice.1.1 choice.2
    ({ c with
        phase := p
        rtSt := .paused
        rtCnt := 0
        rtPcnt := 0
        rtBcount := choice.1.2.1
        rtMaxb := choice.1.2.2
        rtPdur := st.1 }, st.2)
  else ({ c with phase := p, rtCnt := c.rtCnt + 1 }, r)

/-- The Paused arm of R195: `PHASE` is not written. -/
def ratchetPause (c : Channel) (r : Rand) : Channel × Rand :=
  if pauseOver c then
    let burst := draw r cfg.ratBurstLo cfg.ratBurstHi
    let mult := draw burst.2 cfg.ratMultLo cfg.ratMultHi
    ({ c with
        rtSt := .bursting
        rtCnt := 0
        rtPcnt := 0
        rtBdur := burst.1.toNat
        rtMult := mult.1.toNat }, mult.2)
  else ({ c with rtPcnt := c.rtPcnt + 1 }, r)

/-- Exactly one of the two arms runs, chosen by `RT_ST` at the start of the update (R194). -/
def ratchetArm (c : Channel) (r : Rand) : Channel × Rand :=
  match c.rtSt with
  | .bursting => ratchetBurst c r
  | .paused => ratchetPause c r

/-- `RAT`, kind 6 (R195): the arm of the state, then the triangle at the phase. -/
def updateRat : Update := fun c _ _ r =>
  let arm := ratchetArm c r
  ({ arm.1 with out := lookup .tri arm.1.phase }, arm.2)

/-! ## Gravity -/

/-- Step 1 of R201: now and then, a new target. -/
def gravityRetarget (c : Channel) (r : Rand) : Channel × Rand :=
  let t := chance r cfg.gravRetargetPerMille 1000
  if t.1 then
    let mm := draw t.2 cfg.gravDrawLo cfg.gravDrawHi
    ({ c with gvTgt := (Q (baseFreq c * (mm.1 : ℚ) / cfg.gravDrawDen)).toNat }, mm.2)
  else (c, t.2)

/-- Step 2 of R201: pull `GV_CUR` towards the target and clamp it to `[0.1 b, 5 b]`. -/
def gravityPull (c : Channel) : Nat :=
  (clampQ (fixVal c.gvCur + cfg.gravPull * (fixVal c.gvTgt - fixVal c.gvCur))
    (cfg.gravLo * baseFreq c) (cfg.gravHi * baseFreq c)).toNat

/-- Steps 2 and 3 of R201: pull, then advance at the current frequency and read. -/
def gravityAdvance (c : Channel) : Channel :=
  advanceAndLookup .tri (fixVal (gravityPull c)) { c with gvCur := gravityPull c }

/-- `GRV`, kind 11 (R201). -/
def updateGrv : Update := fun c _ _ r =>
  (gravityAdvance (gravityRetarget c r).1, (gravityRetarget c r).2)

/-! ## The instructions -/

/-- The update operation `RSL` on the channel handed over (R110, R181). -/
def execRsl (s : State) : Result := .next (s.runUpdate updateRsl)

/-- The update operation `WNK` on the channel handed over (R110, R186). -/
def execWnk (s : State) : Result := .next (s.runUpdate updateWnk)

/-- The update operation `RAT` on the channel handed over (R110, R195). -/
def execRat (s : State) : Result := .next (s.runUpdate updateRat)

/-- The update operation `GRV` on the channel handed over (R110, R201). -/
def execGrv (s : State) : Result := .next (s.runUpdate updateGrv)

end Sys2Proof.Machine
end

