-- ==== Sys2Proof/Machine/Scheduler.lean ====
section
/-!
DEFINITION. `NOP`, `POLL` and the pass (40_scheduler_and_pass.md R100 to R112). A `POLL` that is due advances
`TREF`, runs one whole pass as one atomic step (R111, R277) and sets `TICKED`.
-/

namespace Sys2Proof.Machine

/-- The update operation of an instruction that is a waveform kind; a command has none (R110). -/
def updateOf : Instr → Option Update
  | .nop => none
  | .reset => none
  | .poll => none
  | .sethz _ _ => none
  | .setn _ _ => none
  | .loadk _ _ => none
  | .wadv _ => none
  | .selnx => none
  | .tri => some updateTri
  | .sqr => some updateSqr
  | .sin => some updateSin
  | .rsl => some updateRsl
  | .wnk => some updateWnk
  | .fm => some updateFm
  | .rat => some updateRat
  | .tsn => some updateTsn
  | .am => some updateAm
  | .swm => some updateSwm
  | .pen => some updatePen
  | .grv => some updateGrv

/-- The dispatch of R110 on a kind code; 12 to 15 have no arm (R87). -/
def kindUpdate (k : KindCode) : Option Update :=
  match decodeKind k with
  | .ok i => updateOf i
  | .error _ => none

/-- One channel's turn in a pass: `OUT[i] <- Update(KIND[i], i, m, t_ms)` (R106, R109, R110). A code without
an arm leaves the channel as it is; no pass meets one (`illegalKind`). -/
def State.updateChannel (s : State) (i : ChIx) (m : Byte) (tMs : Time) : State :=
  match kindUpdate (s.ch i).kind with
  | some u => s.update u i m tMs
  | none => s

/-- `PASS(now)` (R106): the snapshot is taken from `s`, the state at the start of the pass (R107); then the
channels 0, 1, 2, 3 are updated in this order (R108). -/
def State.pass (s : State) : State :=
  let s0 := s.updateChannel 0 (s.snapshot (src 0)) s.tMs
  let s1 := s0.updateChannel 1 (s.snapshot (src 1)) s.tMs
  let s2 := s1.updateChannel 2 (s.snapshot (src 2)) s.tMs
  s2.updateChannel 3 (s.snapshot (src 3)) s.tMs

/-- `TREF` after a tick: R102 (`SCHED_ADVANCE = grid`) or R103 (`now`). -/
def State.nextTref (s : State) : Time :=
  match s.params.schedAdvance with
  | .grid => s.tref + BitVec.ofNat 64 (s.elapsed / cfg.tickUs * cfg.tickUs)
  | .now => s.now

/-- The first `KIND[i]` that names no kind, if one does (R87). -/
def State.illegalKind (s : State) : Option KindCode :=
  [s.kindPort 0, s.kindPort 1, s.kindPort 2, s.kindPort 3].find? (fun k => cfg.nKinds ≤ k.toNat)

/-- `NOP` (R100): nothing. -/
def execNop (s : State) : Result := .next s

/-- `POLL` (R101). A due pass over a `KIND` that names no kind is refused (R87); no run reaches one. -/
def execPoll (s : State) : Result :=
  if s.tickDue then
    match s.illegalKind with
    | none => .next { State.pass { s with tref := s.nextTref } with ticked := true }
    | some k => .refused (.noSuchKind k)
  else .next { s with ticked := false }

end Sys2Proof.Machine
end

