-- ==== Sys2Proof/Machine/Dispatch.lean ====
section
/-!
DEFINITION. One arm per instruction.
-/

namespace Sys2Proof.Machine

def exec (i : Instr) (s : State) : Host.Outcome State Fault Refusal :=
  match i with
  | .nop => Sys2Proof.Machine.execNop s
  | .reset => Sys2Proof.Machine.execReset s
  | .poll => Sys2Proof.Machine.execPoll s
  | .sethz ch code => Sys2Proof.Machine.execSethz ch code s
  | .setn ch k => Sys2Proof.Machine.execSetn ch k s
  | .loadk ch v => Sys2Proof.Machine.execLoadk ch v s
  | .wadv d => Sys2Proof.Machine.execWadv d s
  | .selnx => Sys2Proof.Machine.execSelnx s
  | .tri => Sys2Proof.Machine.execTri s
  | .sqr => Sys2Proof.Machine.execSqr s
  | .sin => Sys2Proof.Machine.execSin s
  | .rsl => Sys2Proof.Machine.execRsl s
  | .wnk => Sys2Proof.Machine.execWnk s
  | .fm => Sys2Proof.Machine.execFm s
  | .rat => Sys2Proof.Machine.execRat s
  | .tsn => Sys2Proof.Machine.execTsn s
  | .am => Sys2Proof.Machine.execAm s
  | .swm => Sys2Proof.Machine.execSwm s
  | .pen => Sys2Proof.Machine.execPen s
  | .grv => Sys2Proof.Machine.execGrv s

end Sys2Proof.Machine
end

