-- ==== Sys2Proof/Machine/Fetch.lean ====
section
/-!
DEFINITION. What a step takes its instruction from. The block has no program counter and fetches nothing
(10_state.md R28): the next instruction is the next command the host presents (R120), or, for an update
taken by itself, the kind in the handed-over channel's `KIND` register (R110).
-/

namespace Sys2Proof.Machine

/-- The kind an update taken by itself is dispatched on (R110). -/
def State.fetchKind (s : State) : KindCode := (s.ch s.hand.chan).kind

/-- The state as a command finds it when it is accepted: the command has left the host's side of the port,
and its clock value stands at the clock port (R80, R120). -/
def State.accept (s : State) (c : Command) (rest : List Command) : State :=
  { s with port := rest, now := c.now }

/-- The command comes with a clock value below the one before it (R104). -/
def State.clockWentBack (s : State) (c : Command) : Bool := c.now.toNat < s.now.toNat

/-- What an accepted word does that names no command: a reserved opcode executes as `NOP` (R84). -/
def State.rejected (s : State) (_ : Reject) : State := s

end Sys2Proof.Machine
end

