-- ==== Sys2Proof/Machine/Step.lean ====
section
/-!
DEFINITION. One step: one command executed to completion (R120, "a model executes a pass as one step",
R277). When the host presents nothing the state stays as it is (R262). A clock value below the one before
it is refused (R104). When `hand.live` is set the step is one update operation taken by itself, dispatched
on the `KIND` of the channel handed over (R110; notes/assumptions/1.md).
-/

namespace Sys2Proof.Machine

/-- The update operation of the channel handed over, taken by itself. -/
def stepUpdate (s : State) : Host.Outcome State Fault Refusal :=
  match decodeKind s.fetchKind with
  | .ok i => exec i s
  | .error _ => .refused (.noSuchKind s.fetchKind)

/-- One command of the host, `c`, with `rest` to come after it. -/
def stepCommand (s : State) (c : Command) (rest : List Command) : Host.Outcome State Fault Refusal :=
  if s.clockWentBack c then .refused (.clockWentBack s.now c.now)
  else
    match decodeCommand c.word with
    | .ok i => exec i (s.accept c rest)
    | .error e => .next ((s.accept c rest).rejected e)

/-- One step of the machine. -/
def step (s : State) : Host.Outcome State Fault Refusal :=
  if s.hand.live then stepUpdate s
  else
    match s.port with
    | [] => .next s
    | c :: rest => stepCommand s c rest

/-- `s` with the instruction of the bits `w` where the next step takes it from: a command as the next one
the host presents, at the present clock value; a kind in `KIND` of the channel handed over, with the next
step set to run that channel's update. -/
def State.withFetchWord (s : State) (nbits w : Nat) : State :=
  if nbits ≤ 8 then
    { s.setCh s.hand.chan { s.ch s.hand.chan with kind := BitVec.ofNat 4 w } with
      hand := { s.hand with live := true } }
  else
    { s with
      port := { word := BitVec.ofNat 32 w, now := s.now } :: s.port
      hand := { s.hand with live := false } }

end Sys2Proof.Machine
end

