-- ==== Sys2Proof/WellFormed.lean ====
section
/-!
DEFINITION. Which instructions a host that keeps its duties issues (60_exceptions.md R255, R259). The
operand types already hold every field to its width (R81, R83), so the one check left is the range of a
frequency code. The machine executes an instruction that fails it all the same (R121).
-/

namespace Sys2Proof

/-- In-range frequency codes: 0.05 Hz to 20 Hz, `3277 ≤ code ≤ 1310720` (R121, R255). -/
def inRangeCode (code : FreqCode) : Bool := 3277 ≤ code.toNat && code.toNat ≤ 1310720

/-- The instruction keeps the host's duty of R255 (a): every `SETHZ` code is in range. -/
def Instr.wellFormed : Instr → Bool
  | .nop => true
  | .reset => true
  | .poll => true
  | .sethz _ code => inRangeCode code
  | .setn _ _ => true
  | .loadk _ _ => true
  | .wadv _ => true
  | .selnx => true
  | .tri => true
  | .sqr => true
  | .sin => true
  | .rsl => true
  | .wnk => true
  | .fm => true
  | .rat => true
  | .tsn => true
  | .am => true
  | .swm => true
  | .pen => true
  | .grv => true

end Sys2Proof
end

