-- ==== Sys2Proof/Safety.lean ====
section
/-!
DEFINITION. What a safe run is: an admissible `FREQMAP` (46_freqmap_table.md R241), the host's duties
(60_exceptions.md R259), the invariant of every reachable state (70_reset_and_hazards.md R293, R43), what an
update and a command leave alone (R37, R112, R128), and the 40-bit form of the phase registers that R282 allows
an implementation.
-/

namespace Sys2Proof

/-! ## The open parameters -/

/-- The properties R241 (a) and (b) ask of every admissible `FREQMAP` of R11, with the length of R74: a code for
each `k`, strictly increasing, from 3277 to 1310720. The range of (c) follows from them; (d) speaks of the
default table. -/
structure Params.Admissible (p : Params) : Prop where
  /-- one entry for each code `k` of `NORM_BITS` bits (R74) -/
  length_eq : p.freqMap.length = 2 ^ cfg.normBits
  /-- strictly increasing (R241 (a)) -/
  increasing : ∀ k, k < 1023 → (p.freqMap.getD k 0).toNat < (p.freqMap.getD (k + 1) 0).toNat
  /-- `FREQMAP[0] = 3277` (R241 (b)) -/
  first : p.freqMap.getD 0 0 = 3277
  /-- `FREQMAP[1023] = 1310720` (R241 (b)) -/
  last : p.freqMap.getD 1023 0 = 1310720

end Sys2Proof

namespace Sys2Proof.Machine

/-! ## The host's duties -/

/-- The clock values of the commands to come never decrease, starting from `now` (R104, R259 duty 2). -/
def clockKept (now : Time) : List Command → Bool
  | [] => true
  | c :: rest => now.toNat ≤ c.now.toNat && clockKept c.now rest

/-- Every `SETHZ` code to come is in range (R255 (a), R259 duty 3). -/
def rangeKept (cs : List Command) : Bool :=
  cs.all fun c =>
    match decodeCommand c.word with
    | .ok i => i.wellFormed
    | .error _ => true

/-- The next command, if the host presents one, comes with a clock value not below the last (R104). -/
def State.clockOk (s : State) : Prop := ∀ c ∈ s.port.head?, s.now.toNat ≤ c.now.toNat

/-! ## The invariant -/

/-- What holds of a channel in every reachable state: the list of R293, the ranges of R183, R188 and R196,
and that every register fits the width R43 says is large enough. -/
structure Channel.Inv (c : Channel) : Prop where
  /-- `KIND ≤ 11` (R21, R87) -/
  kind_legal : c.kind.toNat ≤ 11
  /-- `0 ≤ RS_CUR ≤ 255` (R183) -/
  rsCur_le : c.rsCur ≤ 255 * 2 ^ 32
  /-- a rising ramp is not above its target (R183) -/
  rs_rising : 0 < c.rsStep → c.rsCur ≤ c.rsTgt.toNat * 2 ^ 32
  /-- a falling ramp is not below its target (R183) -/
  rs_falling : c.rsStep < 0 → c.rsTgt.toNat * 2 ^ 32 ≤ c.rsCur
  /-- `|RS_STEP| < 27` (R43) -/
  rsStep_lt : |c.rsStep| < 27 * 2 ^ 32
  /-- `WK_CNT < WK_DUR` (R188) -/
  wkCnt_lt : c.wkCnt < c.wkDur
  /-- `10 ≤ WK_DUR` (R188) -/
  wkDur_ge : 10 ≤ c.wkDur
  /-- every duration is at most 800 (R43) -/
  wkDur_le : c.wkDur ≤ 800
  /-- `0.6 ≤ WK_MULT` (R188): `Qc(0.6)` -/
  wkMult_ge : 2576980378 ≤ c.wkMult
  /-- `WK_MULT ≤ 1.6` (R188): `Q(1.6)` -/
  wkMult_le : c.wkMult ≤ 6871947673
  /-- `RT_CNT < RT_BDUR` (R196) -/
  rtCnt_lt : c.rtCnt < c.rtBdur
  /-- `RT_PCNT < RT_PDUR` (R196) -/
  rtPcnt_lt : c.rtPcnt < c.rtPdur
  /-- `RT_BCOUNT < RT_MAXB` (R196) -/
  rtBcount_lt : c.rtBcount < c.rtMaxb
  /-- `30 ≤ RT_BDUR` (R196) -/
  rtBdur_ge : 30 ≤ c.rtBdur
  /-- `RT_BDUR ≤ 130` (R196) -/
  rtBdur_le : c.rtBdur ≤ 130
  /-- `10 ≤ RT_PDUR` (R196) -/
  rtPdur_ge : 10 ≤ c.rtPdur
  /-- `RT_PDUR ≤ 600` (R196) -/
  rtPdur_le : c.rtPdur ≤ 600
  /-- `2 ≤ RT_MAXB` (R196) -/
  rtMaxb_ge : 2 ≤ c.rtMaxb
  /-- `RT_MAXB ≤ 5` (R196) -/
  rtMaxb_le : c.rtMaxb ≤ 5
  /-- `2 ≤ RT_MULT` (R196) -/
  rtMult_ge : 2 ≤ c.rtMult
  /-- `RT_MULT ≤ 8` (R196) -/
  rtMult_le : c.rtMult ≤ 8
  /-- `GV_CUR ≤ 5 × 256` (R43) -/
  gvCur_le : c.gvCur ≤ 5 * 256 * 2 ^ 32
  /-- `GV_TGT ≤ 5 × 256` (R43) -/
  gvTgt_le : c.gvTgt ≤ 5 * 256 * 2 ^ 32

/-- What holds of every reachable state (R293): every channel keeps its invariant, and no time the machine
holds is ahead of the clock (R104, R153). -/
structure State.Inv (s : State) : Prop where
  /-- every channel keeps its invariant -/
  channel : ∀ i : ChIx, (s.ch i).Inv
  /-- `TREF` is not above the last clock value (R104, R153) -/
  tref_le : s.tref.toNat ≤ s.now.toNat
  /-- no `RS_LAST[i]` is above the last clock value in milliseconds, so that `t_ms − RS_LAST` is never
  negative (R153) -/
  rsLast_le : ∀ i : ChIx, (s.ch i).rsLast.toNat ≤ s.now.toNat / 1000
  /-- nor is the time of an update handed over -/
  hand_le : s.hand.live = true → s.hand.tMs.toNat ≤ s.now.toNat / 1000

/-- Every `KIND[i]` names a kind (R87). -/
def State.kindsLegal (s : State) : Prop := ∀ i : ChIx, (s.ch i).kind.toNat ≤ 11

/-! ## Frames -/

/-- What an update of channel `i` leaves alone (R37, R106, R112): the other channels and every global
register, the clock port, the commands to come and the parameters. -/
structure UpdateFrame (s t : State) : Prop where
  /-- the other channels -/
  others : ∀ j : ChIx, j ≠ s.hand.chan → t.ch j = s.ch j
  /-- `SEL` -/
  sel : t.sel = s.sel
  /-- `TREF` -/
  tref : t.tref = s.tref
  /-- `TICKED` -/
  ticked : t.ticked = s.ticked
  /-- the clock port -/
  now : t.now = s.now
  /-- the commands to come -/
  port : t.port = s.port
  /-- the open parameters -/
  params : t.params = s.params

/-- What a command that writes one register of channel `i` leaves alone (R121, R124, R125, R128): the other
channels, every global register, the random source and the model's other fields. -/
structure CommandFrame (i : ChIx) (s t : State) : Prop where
  /-- the other channels -/
  others : ∀ j : ChIx, j ≠ i → t.ch j = s.ch j
  /-- `SEL` -/
  sel : t.sel = s.sel
  /-- `TREF` -/
  tref : t.tref = s.tref
  /-- `TICKED` -/
  ticked : t.ticked = s.ticked
  /-- the random source -/
  rand : t.rand = s.rand
  /-- the clock port -/
  now : t.now = s.now
  /-- the commands to come -/
  port : t.port = s.port
  /-- the open parameters -/
  params : t.params = s.params
  /-- the hand-over -/
  hand : t.hand = s.hand

/-! ## Wrapped phases -/

/-- A phase register cut to `P mod 256`, 40 bits (R282). -/
def wrapPhase (p : Nat) : Nat := p % (256 * 2 ^ 32)

/-- A channel with every phase register cut to 40 bits (R282). -/
def Channel.wrap (c : Channel) : Channel :=
  { c with
    phase := wrapPhase c.phase
    tsPhase := wrapPhase c.tsPhase
    swBreath := wrapPhase c.swBreath
    swSp0 := wrapPhase c.swSp0
    swSp1 := wrapPhase c.swSp1
    swSp2 := wrapPhase c.swSp2
    pnPhase := wrapPhase c.pnPhase }

/-- The state with every phase register cut to 40 bits (R282). -/
def State.wrap (s : State) : State :=
  { s with
    bank := { c0 := s.bank.c0.wrap, c1 := s.bank.c1.wrap, c2 := s.bank.c2.wrap, c3 := s.bank.c3.wrap } }

/-- The outcome of a step with the phases cut afterwards: what an implementation with 40-bit accumulators
leaves (R282). -/
def wrapResult : Result → Result
  | .next t => .next t.wrap
  | .fault f => .fault f
  | .refused r => .refused r

end Sys2Proof.Machine
end

