-- ==== Sys2Proof/Certificates/Slice0/Obligations.lean ====
section
/-!
DEFINITION. The statements for the provers. Their arithmetic is written out in the spec's numbers (a raw
fixed-point integer is its value times 2^32, R43), not in the model's names for them, so that a wrong
constant or a wrong rounding of the model makes a statement false. The block has no writable memory (R65),
so no frame speaks of memory.
-/

namespace Sys2Proof.Vocab

open Sys2Proof.Machine

/-- `FREQ / 65536` in hertz (R22). -/
def hz (c : Channel) : ℚ := (c.freq.toNat : ℚ) / 65536

/-- The raw integer of `Q(P + f × 64/625)`, `P` the phase whose raw integer is `p` (R141, R149). -/
def advanced (p : Nat) (f : ℚ) : Nat := ⌊((p : ℚ) / 2 ^ 32 + f * (64 / 625)) * 2 ^ 32⌋.toNat

/-- `T[floor(P) mod 256]`, `P` the phase whose raw integer is `p` (R61, R148). -/
def entry (t : Table) (p : Nat) : Nat := tableEntry t (p / 2 ^ 32 % 256)

/-- `(2 s − 255) / 255` (R146). -/
def bipolar (s : Nat) : ℚ := (2 * (s : ℚ) - 255) / 255

/-- `x` held between `lo` and `hi` (R143). -/
def limit (x lo hi : ℚ) : ℚ := max lo (min x hi)

/-- The sample nearest to `x`, halves upward, held in 0..255 (R145). -/
def sample (x : ℚ) : Byte := BitVec.ofInt 8 (max 0 (min ⌊x + 1 / 2⌋ 255))

/-- `(y + 1) × 255/2` as a sample (R147). -/
def unipolar (y : ℚ) : Byte := sample ((y + 1) * (255 / 2))

/-- `i` at `s` has a next state, in which the channel handed over is `c'` and the random source `r'`, and
the other channels and the global registers are as in `s`. -/
def UpdatesTo (i : Instr) (s : State) (c' : Channel) (r' : Rand) : Prop :=
  ∃ t, exec i s = .next t ∧ t.ch s.hand.chan = c' ∧ t.rand = r' ∧ UpdateFrame s t

/-- `i` at `s` has a next state, in which channel `ch` is `c'` and everything else is as in `s`. -/
def WritesTo (i : Instr) (s : State) (ch : ChIx) (c' : Channel) : Prop :=
  ∃ t, exec i s = .next t ∧ t.ch ch = c' ∧ CommandFrame ch s t

/-- The step of R181 towards the target on raw integers, and the sample of the value reached. -/
def ramp (c : Channel) : Channel :=
  let v : Int := c.rsCur + c.rsStep
  let tgt : Int := (c.rsTgt.toNat : Int) * 2 ^ 32
  let w : Int := if 0 < c.rsStep then min v tgt else if c.rsStep < 0 then max v tgt else v
  { c with rsCur := w.toNat, out := sample ((w : ℚ) / 2 ^ 32) }

/-- With probability `pct` in 100, `1 .. hi` whole index units are added to the phase (R186). -/
def kick (pct hi : Int) (c : Channel) (r : Rand) : Channel × Rand :=
  let j := draw r 0 99
  if j.1 < pct then
    let n := draw j.2 1 hi
    ({ c with phase := c.phase + n.1.toNat * 2 ^ 32 }, n.2)
  else (c, j.2)

/-- The hold step of R186, with the drift range of R187. -/
def hold (c : Channel) (r : Rand) : Channel × Rand :=
  if c.wkDur ≤ c.wkCnt + 1 then
    let long := draw r 0 99
    let dur := if long.1 < 80 then draw long.2 200 800 else draw long.2 10 80
    let gentle := draw dur.2 0 99
    let range := limit (3 / 10 - 1 / 4 * (hz c - 1 / 20) / (20 - 1 / 20)) (1 / 20) (3 / 10)
    let pick := if gentle.1 < 70 then draw gentle.2 (-100) 100 else draw gentle.2 50 180
    let mult : ℚ := if gentle.1 < 70 then 1 + (pick.1 : ℚ) / 100 * range else (pick.1 : ℚ) / 100
    ({ c with
        wkCnt := 0
        wkDur := dur.1.toNat
        wkMult := (max 2576980378 (min ⌊mult * 2 ^ 32⌋ 6871947673)).toNat }, pick.2)
  else ({ c with wkCnt := c.wkCnt + 1 }, r)

/-- The four steps of R186: jitter, hold, nudge, advance. -/
def wonky (c : Channel) (r : Rand) : Channel × Rand :=
  let a := kick 5 4 c r
  let b := hold a.1 a.2
  let n := if 5 / 4 < (b.1.wkMult : ℚ) / 2 ^ 32 then kick 2 8 b.1 b.2 else b
  let p := advanced n.1.phase (hz c * ((n.1.wkMult : ℚ) / 2 ^ 32))
  ({ n.1 with phase := p, out := BitVec.ofNat 8 (entry .tri p) }, n.2)

/-- The two arms of R195, without the sample. -/
def ratchet (c : Channel) (r : Rand) : Channel × Rand :=
  match c.rtSt with
  | .bursting =>
    let p := advanced c.phase (hz c * (c.rtMult : ℚ))
    if c.rtBdur ≤ c.rtCnt + 1 then
      let pause := if c.rtMaxb ≤ c.rtBcount + 1 then draw r 200 600 else draw r 50 150
      let maxb := if c.rtMaxb ≤ c.rtBcount + 1 then draw pause.2 2 5 else ((c.rtMaxb : Int), pause.2)
      let test := draw maxb.2 0 99
      let last := if test.1 < 10 then draw test.2 10 30 else (pause.1, test.2)
      ({ c with
          phase := p
          rtSt := .paused
          rtCnt := 0
          rtPcnt := 0
          rtBcount := if c.rtMaxb ≤ c.rtBcount + 1 then 0 else c.rtBcount + 1
          rtMaxb := maxb.1.toNat
          rtPdur := last.1.toNat }, last.2)
    else ({ c with phase := p, rtCnt := c.rtCnt + 1 }, r)
  | .paused =>
    if c.rtPdur ≤ c.rtPcnt + 1 then
      let burst := draw r 30 130
      let mult := draw burst.2 2 8
      ({ c with
          rtSt := .bursting
          rtCnt := 0
          rtPcnt := 0
          rtBdur := burst.1.toNat
          rtMult := mult.1.toNat }, mult.2)
    else ({ c with rtPcnt := c.rtPcnt + 1 }, r)

/-- The retarget step of R201. -/
def newTarget (c : Channel) (r : Rand) : Channel × Rand :=
  let t := draw r 0 999
  if t.1 < 4 then
    let mm := draw t.2 10 500
    ({ c with gvTgt := ⌊(hz c * ((mm.1 : ℚ) / 100)) * 2 ^ 32⌋.toNat }, mm.2)
  else (c, t.2)

/-- The pull of R201: 18/100 of the way, then the clamp between `Qc(0.1 b)` and `Q(5 b)`. -/
def pulled (c : Channel) : Int :=
  max ⌈hz c / 10 * 2 ^ 32⌉
    (min ⌊(c.gvCur : ℚ) + 18 / 100 * ((c.gvTgt : ℚ) - (c.gvCur : ℚ))⌋ ⌊5 * hz c * 2 ^ 32⌋)

/-- The state of a pass over `s` once the channels below `n` have had their turn (R106, R108): each has run the
update of its kind with its source's sample of the state `s` and the clock's milliseconds (R107). -/
def afterTurns (s : State) : Nat → State
  | 0 => s
  | n + 1 =>
    (afterTurns s n).updateChannel (Fin.ofNat 4 n) (srcSample (s.ch (Fin.ofNat 4 (n + 3))))
      (BitVec.ofNat 64 (s.now.toNat / 1000))

/-- The random source as channel `i` meets it at its turn in a pass over `s`: after the draws of the channels
before it (R108, R150). For channel 0 it is `s.rand`. -/
def randAtTurn (s : State) (i : ChIx) : Rand := (afterTurns s i.val).rand

/-- The seven accumulators of a channel do not decrease. -/
def Grows (c c' : Channel) : Prop :=
  c.phase ≤ c'.phase ∧ c.tsPhase ≤ c'.tsPhase ∧ c.swBreath ≤ c'.swBreath ∧ c.swSp0 ≤ c'.swSp0 ∧
    c.swSp1 ≤ c'.swSp1 ∧ c.swSp2 ≤ c'.swSp2 ∧ c.pnPhase ≤ c'.pnPhase

/-- `c'` is `c` but for `PHASE`, `OUT` and the auxiliary file of the kind `k` (R29 to R35, R112);
Random Slope does not write `PHASE` (R181). -/
def MovesOnly (k : Nat) (c c' : Channel) : Prop :=
  c' =
    match k with
    | 3 => { c with rsCur := c'.rsCur, rsTgt := c'.rsTgt, rsStep := c'.rsStep, rsLast := c'.rsLast, out := c'.out }
    | 4 => { c with phase := c'.phase, out := c'.out, wkCnt := c'.wkCnt, wkDur := c'.wkDur, wkMult := c'.wkMult }
    | 6 => { c with
        phase := c'.phase, out := c'.out, rtSt := c'.rtSt, rtCnt := c'.rtCnt, rtBdur := c'.rtBdur,
        rtPcnt := c'.rtPcnt, rtPdur := c'.rtPdur, rtBcount := c'.rtBcount, rtMaxb := c'.rtMaxb,
        rtMult := c'.rtMult }
    | 7 => { c with phase := c'.phase, out := c'.out, tsPhase := c'.tsPhase }
    | 9 => { c with
        phase := c'.phase, out := c'.out, swBreath := c'.swBreath, swSp0 := c'.swSp0, swSp1 := c'.swSp1,
        swSp2 := c'.swSp2 }
    | 10 => { c with phase := c'.phase, out := c'.out, pnPhase := c'.pnPhase }
    | 11 => { c with phase := c'.phase, out := c'.out, gvCur := c'.gvCur, gvTgt := c'.gvTgt }
    | _ => { c with phase := c'.phase, out := c'.out }

end Sys2Proof.Vocab

open Sys2Proof Sys2Proof.Machine Sys2Proof.Vocab

/-! ## Encoding -/

/-- Decoding an encoded instruction gives it back, every operand at every value (30_encoding.md). -/
def Obligations.DecodeOfEncode : Prop := ∀ i : Instr, decode (encode i) = .ok i

/-- R83, with the fields of R81 written as numbers: `OP = w div 2^28`, `CH = w div 2^26 mod 4`, immediates
the low bits of `w`; every other bit of the word is ignored. -/
def Obligations.DecodeByFields : Prop :=
  ∀ w : CmdWord,
    let ch : ChIx := Fin.ofNat 4 (w.toNat / 2 ^ 26)
    decodeCommand w =
      match w.toNat / 2 ^ 28 with
      | 0 => .ok .nop
      | 1 => .ok .reset
      | 2 => .ok .poll
      | 3 => .ok (.sethz ch (BitVec.ofNat 24 (w.toNat % 2 ^ 24)))
      | 4 => .ok (.setn ch (BitVec.ofNat 10 (w.toNat % 2 ^ 10)))
      | 5 => .ok (.loadk ch (BitVec.ofNat 8 (w.toNat % 2 ^ 8)))
      | 6 => .ok (.wadv (if w.toNat % 2 = 0 then .plusOne else .minusOne))
      | 7 => .ok .selnx
      | op => .error (.reservedOpcode (BitVec.ofNat 4 op))

/-- R86: the kind code is the position of the kind in the source's list, counted from 0. -/
def Obligations.KindCodeIsListPosition : Prop :=
  ∀ n : Nat, ∀ i : Instr,
    [Instr.tri, .sqr, .sin, .rsl, .wnk, .fm, .rat, .tsn, .am, .swm, .pen, .grv][n]? = some i →
      decodeKind (BitVec.ofNat 4 n) = .ok i ∧ encode i = .kind (BitVec.ofNat 4 n)

/-- R87: codes 12 to 15 name no kind. -/
def Obligations.CodesAboveElevenNameNoKind : Prop :=
  ∀ k : KindCode, 12 ≤ k.toNat → decodeKind k = .error (.noSuchKind k)

/-- Words of 95_test_vectors.md section 2.2 (V-E3, V-E5, V-E9, V-E13, V-E16, V-E23 to V-E25). -/
def Obligations.ListedWordsDecode : Prop :=
  decodeCommand 0x20000000 = .ok .poll ∧
  decodeCommand 0x34018000 = .ok (.sethz 1 98304) ∧
  decodeCommand 0x48000200 = .ok (.setn 2 512) ∧
  decodeCommand 0x5800000C = .ok (.loadk 2 12) ∧
  decodeCommand 0x60000001 = .ok (.wadv .minusOne) ∧
  decodeCommand 0x6C000003 = .ok (.wadv .minusOne) ∧
  decodeCommand 0x44000600 = .ok (.setn 1 512) ∧
  decodeCommand 0x5400010B = .ok (.loadk 1 11)

/-! ## Steps -/

/-- A step runs the decoded command: it takes the next command the host presents, puts its clock value at
the clock port, and executes it. How the model presents commands is its own (log entry 2). -/
def Obligations.StepRunsTheDecodedCommand : Prop :=
  ∀ (s : State) (c : Command) (rest : List Command) (i : Instr),
    s.hand.live = false → s.port = c :: rest → s.now.toNat ≤ c.now.toNat →
    decodeCommand c.word = .ok i →
      step s = exec i { s with port := rest, now := c.now }

/-- A step with an update handed over runs the update operation of the kind in that channel's `KIND`. That an
update can be a step of its own is the model's choice (log entry 1). -/
def Obligations.StepRunsTheKindHandedOver : Prop :=
  ∀ (s : State) (i : Instr),
    s.hand.live = true → decodeKind (s.ch s.hand.chan).kind = .ok i → step s = exec i s

/-- R84: a reserved opcode executes as `NOP`. That the model runs it and does not refuse the stream is its
choice between R84 and 93_implementation_defined.md U2 (log entry 6). -/
def Obligations.ReservedWordChangesNoRegister : Prop :=
  ∀ (s : State) (c : Command) (rest : List Command),
    s.hand.live = false → s.port = c :: rest → s.now.toNat ≤ c.now.toNat → 2 ^ 31 ≤ c.word.toNat →
      step s = .next { s with port := rest, now := c.now }

/-- R262: a host that presents nothing leaves the state as it is (the model's idle step, log entry 2). -/
def Obligations.IdleStepChangesNothing : Prop :=
  ∀ s : State, s.hand.live = false → s.port = [] → step s = .next s

/-- R104: a command stream whose clock goes back is refused, whatever the command. -/
def Obligations.ClockGoingBackIsRefused : Prop :=
  ∀ (s : State) (c : Command) (rest : List Command),
    s.hand.live = false → s.port = c :: rest → c.now.toNat < s.now.toNat →
      step s = .refused (.clockWentBack s.now c.now)

/-- R245: from every state that keeps the invariant, with a clock that has not gone back, a step has a next
state: nothing the host can issue stops the machine. -/
def Obligations.EveryCommandHasASuccessor : Prop :=
  ∀ s : State, s.Inv → s.clockOk → ∃ t, step s = .next t

/-- Between commands no update stays handed over: a step leaves `hand.live` false and the rest of `hand` as it
was (the model's choice, log entry 1). -/
def Obligations.StepClearsTheHandover : Prop :=
  ∀ s t : State, step s = .next t → t.hand = { s.hand with live := false }

/-! ## Commands -/

/-- R100: `NOP` changes no register and takes no draw. -/
def Obligations.NopChangesNothing : Prop := ∀ s : State, exec .nop s = .next s

/-- R45, R271: `RESET` gives every register its reset value, draws `TS_SEL[0..3]` in channel order, takes
exactly four draws and loads `TREF` with the clock value; no pass runs. -/
def Obligations.ResetRestoresEveryRegister : Prop :=
  ∀ s : State, ∃ t, exec .reset s = .next t ∧
    (let d0 := draw s.rand 0 3
     let d1 := draw d0.2 0 3
     let d2 := draw d1.2 0 3
     let d3 := draw d2.2 0 3
     ((t.ch 0).tsSel.toNat : Int) = d0.1 ∧ ((t.ch 1).tsSel.toNat : Int) = d1.1 ∧
     ((t.ch 2).tsSel.toNat : Int) = d2.1 ∧ ((t.ch 3).tsSel.toNat : Int) = d3.1 ∧ t.rand = d3.2) ∧
    (∀ i : ChIx, t.ch i =
      { kind := 0, freq := 0x010000, phase := 0, out := 0
        rsCur := 128 * 2 ^ 32, rsTgt := 128, rsStep := 0, rsLast := 0
        wkCnt := 0, wkDur := 200, wkMult := 2 ^ 32
        rtSt := .bursting, rtCnt := 0, rtBdur := 80, rtPcnt := 0, rtPdur := 100, rtBcount := 0
        rtMaxb := 3, rtMult := 4
        tsSel := (t.ch i).tsSel, tsPhase := 0
        swBreath := 0, swSp0 := 0, swSp1 := 0, swSp2 := 0, pnPhase := 0
        gvCur := 2 ^ 32, gvTgt := 2 ^ 32 }) ∧
    t.sel = 0 ∧ t.tref = s.now ∧ t.ticked = false ∧ t.now = s.now ∧ t.port = s.port ∧ t.hand = s.hand ∧
    t.params = s.params

/-- R101, R103: `POLL` ticks exactly when 400 microseconds or more have gone by since `TREF`; then it moves
`TREF` on, by the whole intervals gone by with `SCHED_ADVANCE = grid` and to the clock value with
`SCHED_ADVANCE = now`, and runs one pass; otherwise only `TICKED` is written. -/
def Obligations.PollTicksExactlyWhenDue : Prop :=
  ∀ s : State, s.kindsLegal → s.tref.toNat ≤ s.now.toNat →
    let d := s.now.toNat - s.tref.toNat
    ∃ t, exec .poll s = .next t ∧
      (t.ticked = true ↔ 400 ≤ d) ∧
      (d < 400 → t = { s with ticked := false }) ∧
      (400 ≤ d →
        (s.params.schedAdvance = .grid → t.tref.toNat = s.tref.toNat + d / 400 * 400) ∧
        (s.params.schedAdvance = .now → t.tref = s.now) ∧
        t = { State.pass { s with tref := t.tref } with ticked := true })

/-- R102: with `SCHED_ADVANCE = grid` a ticking `POLL` moves `TREF` by the whole intervals gone by, at least one,
so that it stays on the grid; after it less than one interval separates `TREF` from the clock. -/
def Obligations.TickKeepsTrefOnTheGrid : Prop :=
  ∀ s t : State, s.params.schedAdvance = .grid →
    s.tref.toNat ≤ s.now.toNat → 400 ≤ s.now.toNat - s.tref.toNat → exec .poll s = .next t →
    let k := (s.now.toNat - s.tref.toNat) / 400
    1 ≤ k ∧ t.tref.toNat = s.tref.toNat + k * 400 ∧ t.now = s.now ∧
    t.tref.toNat ≤ t.now.toNat ∧ t.now.toNat - t.tref.toNat < 400

/-- R87: a due pass over a `KIND` that names no kind is refused; a `POLL` that is not due is not, whatever the
kinds are. -/
def Obligations.PassRefusesUnknownKind : Prop :=
  ∀ s : State,
    (400 ≤ (s.now - s.tref).toNat → (∃ i : ChIx, 12 ≤ (s.ch i).kind.toNat) →
      ∃ k : KindCode, 12 ≤ k.toNat ∧ (∃ i : ChIx, (s.ch i).kind = k) ∧
        exec .poll s = .refused (.noSuchKind k)) ∧
    ((s.now - s.tref).toNat < 400 → exec .poll s = .next { s with ticked := false })

/-- R106 to R110: a pass is the four channels' update operations, in the order 0, 1, 2, 3, each dispatched on
its channel's `KIND`, with the source's sample from the snapshot of the state before the pass and the clock's
milliseconds. -/
def Obligations.PassIsFourUpdatesInOrder : Prop :=
  ∀ (s : State) (i0 i1 i2 i3 : Instr),
    decodeKind (s.ch 0).kind = .ok i0 → decodeKind (s.ch 1).kind = .ok i1 →
    decodeKind (s.ch 2).kind = .ok i2 → decodeKind (s.ch 3).kind = .ok i3 →
    let ms : Time := BitVec.ofNat 64 (s.now.toNat / 1000)
    let S := fun j : ChIx => srcSample (s.ch j)
    ∃ s0 s1 s2 s3,
      exec i0 { s with hand := ⟨true, 0, S 3, ms⟩ } = .next s0 ∧
      exec i1 { s0 with hand := ⟨true, 1, S 0, ms⟩ } = .next s1 ∧
      exec i2 { s1 with hand := ⟨true, 2, S 1, ms⟩ } = .next s2 ∧
      exec i3 { s2 with hand := ⟨true, 3, S 2, ms⟩ } = .next s3 ∧
      s.pass = { s3 with hand := s.hand }

/-- R112, R37: in a pass a channel moves only `PHASE`, `OUT` and the auxiliary file of its own kind; `SEL`,
the ports' other side, the parameters and every register of the eleven other kinds keep their values. -/
def Obligations.OnlyTheSelectedKindMoves : Prop :=
  ∀ s t : State, exec .poll s = .next t →
    (∀ i : ChIx, MovesOnly (s.ch i).kind.toNat (s.ch i) (t.ch i)) ∧
    t.sel = s.sel ∧ t.now = s.now ∧ t.port = s.port ∧ t.hand = s.hand ∧ t.params = s.params

/-- R121: `SETHZ` stores the code unchanged, whatever it is, and nothing else. -/
def Obligations.SethzStoresTheCode : Prop :=
  ∀ (s : State) (ch : ChIx) (code : FreqCode),
    WritesTo (.sethz ch code) s ch { s.ch ch with freq := code }

/-- R122: `SETN` writes the entry at its code of whatever table `FREQMAP` is, an in-range code if the table is
admissible (R241), and nothing else. -/
def Obligations.SetnStoresTheMappedCode : Prop :=
  ∀ (s : State) (ch : ChIx) (k : BitVec 10),
    WritesTo (.setn ch k) s ch { s.ch ch with freq := s.params.freqMap.getD k.toNat 0 } ∧
    (s.params.Admissible →
      3277 ≤ (s.params.freqMap.getD k.toNat 0).toNat ∧ (s.params.freqMap.getD k.toNat 0).toNat ≤ 1310720)

/-- R124: `LOADK` applies a stored value of at most 11 and silently ignores any other. -/
def Obligations.LoadkAppliesOnlyKinds : Prop :=
  ∀ (s : State) (ch : ChIx) (v : Byte),
    (v.toNat ≤ 11 → ∃ k : KindCode, k.toNat = v.toNat ∧ WritesTo (.loadk ch v) s ch { s.ch ch with kind := k }) ∧
    (12 ≤ v.toNat → exec (.loadk ch v) s = .next s)

/-- R125: `WADV` moves the selected channel's kind by +1 or by −1 modulo 12, and nothing else. -/
def Obligations.WadvMovesTheSelectedKind : Prop :=
  ∀ (s : State) (ch : ChIx), ch.val = s.sel.toNat →
    (∃ k : KindCode, k.toNat = ((s.ch ch).kind.toNat + 1) % 12 ∧
      WritesTo (.wadv .plusOne) s ch { s.ch ch with kind := k }) ∧
    (∃ k : KindCode, k.toNat = ((s.ch ch).kind.toNat + 11) % 12 ∧
      WritesTo (.wadv .minusOne) s ch { s.ch ch with kind := k })

/-- R126: `SELNX` selects the next channel modulo 4, and writes nothing else. -/
def Obligations.SelnxSelectsTheNextChannel : Prop :=
  ∀ s : State, ∃ t, exec .selnx s = .next t ∧ t.sel.toNat = (s.sel.toNat + 1) % 4 ∧
    t = { s with sel := t.sel }

/-! ## Waveform updates -/

/-- R171: `TRI`. -/
def Obligations.TriAdvancesAndReadsTriangle : Prop :=
  ∀ s : State, let c := s.ch s.hand.chan; let p := advanced c.phase (hz c)
    UpdatesTo .tri s { c with phase := p, out := BitVec.ofNat 8 (entry .tri p) } s.rand

/-- R172: `SQR`. -/
def Obligations.SqrAdvancesAndReadsSquare : Prop :=
  ∀ s : State, let c := s.ch s.hand.chan; let p := advanced c.phase (hz c)
    UpdatesTo .sqr s { c with phase := p, out := BitVec.ofNat 8 (entry .sqr p) } s.rand

/-- R173: `SIN`. -/
def Obligations.SinAdvancesAndReadsSine : Prop :=
  ∀ s : State, let c := s.ch s.hand.chan; let p := advanced c.phase (hz c)
    UpdatesTo .sin s { c with phase := p, out := BitVec.ofNat 8 (entry .sin p) } s.rand

/-- R181: `RSL` retargets when a period has gone by on the wall clock, then takes one step of the ramp. -/
def Obligations.RslRetargetsThenRamps : Prop :=
  ∀ s : State, let c := s.ch s.hand.chan
    let due := 1000 * 65536 ≤ ((s.hand.tMs.toNat : Int) - (c.rsLast.toNat : Int)) * (c.freq.toNat : Int)
    (¬ due → UpdatesTo .rsl s (ramp c) s.rand) ∧
    (due →
      let d := draw s.rand 0 255
      UpdatesTo .rsl s
        (ramp { c with
          rsLast := s.hand.tMs
          rsTgt := BitVec.ofInt 8 d.1
          rsStep := ⌊((d.1 : ℚ) - (c.rsCur : ℚ) / 2 ^ 32) * hz c / 2500 * 2 ^ 32⌋ })
        d.2)

/-- R186, R187: `WNK`. -/
def Obligations.WnkRunsItsFourSteps : Prop :=
  ∀ s : State, let c := s.ch s.hand.chan
    UpdatesTo .wnk s (wonky c s.rand).1 (wonky c s.rand).2

/-- R194, R195: `RAT` runs the arm of its state, then reads the triangle at the phase. -/
def Obligations.RatRunsTheArmOfItsState : Prop :=
  ∀ s : State, let a := ratchet (s.ch s.hand.chan) s.rand
    UpdatesTo .rat s { a.1 with out := BitVec.ofNat 8 (entry .tri a.1.phase) } a.2

/-- R201: `GRV`. -/
def Obligations.GrvRetargetsPullsAndAdvances : Prop :=
  ∀ s : State, let a := newTarget (s.ch s.hand.chan) s.rand
    let cur := (pulled a.1).toNat
    let p := advanced a.1.phase ((cur : ℚ) / 2 ^ 32)
    UpdatesTo .grv s { a.1 with gvCur := cur, phase := p, out := BitVec.ofNat 8 (entry .tri p) } a.2

/-- R211: `FM`. -/
def Obligations.FmAddsTheModulator : Prop :=
  ∀ s : State, let c := s.ch s.hand.chan
    let p := advanced c.phase (limit (hz c + 20 * bipolar s.hand.modulator.toNat) (1 / 100) 25)
    UpdatesTo .fm s { c with phase := p, out := BitVec.ofNat 8 (entry .tri p) } s.rand

/-- R213: `TSN`. -/
def Obligations.TsnMixesTriangleAndSine : Prop :=
  ∀ s : State, let c := s.ch s.hand.chan
    let ratio : ℚ := match c.tsSel.toNat with
      | 0 => 1618 / 1000
      | 1 => 133 / 100
      | 2 => 17 / 10
      | _ => 1732 / 1000
    let p := advanced c.phase (hz c)
    let q := advanced c.tsPhase (hz c * ratio)
    let mix : ℚ := ((entry .tri p : ℚ) - 128) - ((entry .sin q : ℚ) - 128) / 2
    UpdatesTo .tsn s { c with phase := p, tsPhase := q, out := sample (limit mix (-127) 127 + 128) } s.rand

/-- R215: `AM`. -/
def Obligations.AmScalesTheCarrier : Prop :=
  ∀ s : State, let c := s.ch s.hand.chan
    let p := advanced c.phase (hz c)
    let y := bipolar (entry .sin p) * (1 + bipolar s.hand.modulator.toNat)
    UpdatesTo .am s { c with phase := p, out := unipolar (limit y (-1) 1) } s.rand

/-- R217: `SWM`. -/
def Obligations.SwmMixesFiveAccumulators : Prop :=
  ∀ s : State, let c := s.ch s.hand.chan
    let p := advanced c.phase (hz c)
    let b := advanced c.swBreath (1 / 4)
    let p0 := advanced c.swSp0 (hz c * 8)
    let p1 := advanced c.swSp1 (hz c * 11)
    let p2 := advanced c.swSp2 (hz c * 7)
    let amp : ℚ := 1 / 10 + 8 / 10 * (entry .tri b : ℚ) / 255
    let mix : ℚ := amp * bipolar (entry .sin p) + 45 / 100 * bipolar (entry .tri p0)
      + 32 / 100 * bipolar (entry .tri p1) + 40 / 100 * bipolar (entry .tri p2)
    UpdatesTo .swm s
      { c with
        phase := p, swBreath := b, swSp0 := p0, swSp1 := p1, swSp2 := p2
        out := unipolar (limit mix (-1) 1) } s.rand

/-- R219: `PEN`. -/
def Obligations.PenAveragesTwoTriangles : Prop :=
  ∀ s : State, let c := s.ch s.hand.chan
    let p := advanced c.phase (hz c)
    let q := advanced c.pnPhase (hz c * (95 / 100))
    let y := (bipolar (entry .tri p) + bipolar (entry .tri q)) / 2
    UpdatesTo .pen s { c with phase := p, pnPhase := q, out := unipolar (limit y (-1) 1) } s.rand

/-! ## Properties of the updates -/

/-- R183: a Random Slope update leaves `RS_CUR` between where it was and its target. -/
def Obligations.RslStaysBetweenStartAndTarget : Prop :=
  ∀ s t : State, (s.ch s.hand.chan).Inv → exec .rsl s = .next t →
    let c := s.ch s.hand.chan
    let c' := t.ch s.hand.chan
    min c.rsCur (c'.rsTgt.toNat * 2 ^ 32) ≤ c'.rsCur ∧ c'.rsCur ≤ max c.rsCur (c'.rsTgt.toNat * 2 ^ 32)

/-- R202 (a): after every Gravity update `0.1 b ≤ GV_CUR ≤ 5 b` exactly, for every frequency code. -/
def Obligations.GravityStaysInItsBand : Prop :=
  ∀ s t : State, exec .grv s = .next t →
    let c := t.ch s.hand.chan
    hz c / 10 ≤ (c.gvCur : ℚ) / 2 ^ 32 ∧ (c.gvCur : ℚ) / 2 ^ 32 ≤ 5 * hz c

/-- R212 (a): an FM channel moves on every tick, by at least `Q(inc(1/100))` and at most `Q(inc(25))`. -/
def Obligations.FmNeverStandsStill : Prop :=
  ∀ s t : State, exec .fm s = .next t →
    (s.ch s.hand.chan).phase + 4398046 ≤ (t.ch s.hand.chan).phase ∧
    (t.ch s.hand.chan).phase ≤ (s.ch s.hand.chan).phase + 10995116277

/-- R214 (a): the output of TriSine is in 1..255. -/
def Obligations.TriSineNeverEmitsZero : Prop :=
  ∀ s t : State, exec .tsn s = .next t → 1 ≤ (t.ch s.hand.chan).out.toNat

/-- R216 (a): a zero modulator silences AM: the output rests at 128. -/
def Obligations.ZeroModulatorSilencesAm : Prop :=
  ∀ s t : State, s.hand.modulator = 0 → exec .am s = .next t → (t.ch s.hand.chan).out = 128

/-- R220 (b): Pendulum emits the mean of its two triangle samples, rounded, halves upward. -/
def Obligations.PendulumIsTheRoundedMean : Prop :=
  ∀ s t : State, exec .pen s = .next t →
    let c := t.ch s.hand.chan
    c.out.toNat = (entry .tri c.phase + entry .tri c.pnPhase + 1) / 2

/-- R284: how many draws an update takes: none for the kinds 0, 1, 2, 5, 7, 8, 9, 10; at most one for Random
Slope; one to eight for Wonky; none to four for Ratchet; one or two for Gravity. -/
def Obligations.UpdatesTakeTheirDraws : Prop :=
  ∀ (i : Instr) (u : Update) (s t : State), updateOf i = some u → exec i s = .next t →
    ∃ n, t.rand.taken = s.rand.taken + n ∧ t.rand.answers = s.rand.answers.drop n ∧
      (i ∈ [Instr.tri, .sqr, .sin, .fm, .tsn, .am, .swm, .pen] → n = 0) ∧
      (i = .rsl → n ≤ 1) ∧ (i = .wnk → 1 ≤ n ∧ n ≤ 8) ∧ (i = .rat → n ≤ 4) ∧
      (i = .grv → 1 ≤ n ∧ n ≤ 2)

/-! ## Primitives -/

/-- R141, R142: `Q(x)` is the greatest grid value not above `x`, `Qc(x)` the least not below; both leave a
grid value as it is; `Q(x + g) = Q(x) + g`. -/
def Obligations.QuantisersRoundToTheGrid : Prop :=
  ∀ (x : ℚ) (n : Int),
    (n ≤ Q x ↔ (n : ℚ) / 2 ^ 32 ≤ x) ∧ (Qc x ≤ n ↔ x ≤ (n : ℚ) / 2 ^ 32) ∧
    Q ((n : ℚ) / 2 ^ 32) = n ∧ Qc ((n : ℚ) / 2 ^ 32) = n ∧ Q (x + (n : ℚ) / 2 ^ 32) = Q x + n

/-- R145, R146: a sample is rounded to nearest, halves upward, and saturated; a whole sample is kept; the
bipolar conversion is `(2 s − 255) / 255`. -/
def Obligations.SamplesRoundAndSaturate : Prop :=
  (∀ x : ℚ, ((q8 x).toNat : Int) = max 0 (min ⌊x + 1 / 2⌋ 255)) ∧
  (∀ s : Byte, q8 (s.toNat : ℚ) = s) ∧
  (∀ s : Byte, bip s = (2 * (s.toNat : ℚ) - 255) / 255)

/-- R147: `unbip(y) = q8((y + 1) × 255/2)`; `unbip(−1) = 0`, `unbip(+1) = 255`, `unbip(0) = 128`, and `unbip(bip(s)) = s` for every sample. -/
def Obligations.UnbipInvertsBip : Prop :=
  (∀ y : ℚ, unbip y = sample ((y + 1) * (255 / 2))) ∧ unbip (-1) = 0 ∧ unbip 1 = 255 ∧ unbip 0 = 128 ∧ ∀ s : Byte, unbip (bip s) = s

/-- R148: `idx(p) = floor(p) mod 256`. -/
def Obligations.IndexIsFloorModulo256 : Prop :=
  ∀ p : Nat, ((idx p).toNat : Int) = ⌊(p : ℚ) / 2 ^ 32⌋ % 256

/-- R150: the number drawn lies in the range asked for, both ends included, and one answer is used up; an
answer fixed in advance inside the range is the number drawn (the model's form of a free input, log
entry 4). -/
def Obligations.DrawLiesInItsRange : Prop :=
  ∀ (r : Rand) (lo hi : Int), lo ≤ hi →
    lo ≤ (draw r lo hi).1 ∧ (draw r lo hi).1 ≤ hi ∧
    (draw r lo hi).2 = { answers := r.answers.tail, taken := r.taken + 1 } ∧
    (∀ a rest, r.answers = a :: rest → lo ≤ a → a ≤ hi → (draw r lo hi).1 = a)

/-- R62, R63: the triangle and square tables, and the triangle takes every value once. -/
def Obligations.TriangleAndSquareTables : Prop :=
  (∀ a : Byte, a.toNat < 128 →
    (memRead .tri a).toNat = 2 * a.toNat ∧ (memRead .sqr a).toNat = 255) ∧
  (∀ a : Byte, 128 ≤ a.toNat →
    (memRead .tri a).toNat = 511 - 2 * a.toNat ∧ (memRead .sqr a).toNat = 0) ∧
  (∀ a b : Byte, memRead .tri a = memRead .tri b → a = b)

/-- R64: the sine table, every entry: the first 65 as listed, the next 64 their mirror image, and the second
half by antisymmetry; with the four entries the rule names. -/
def Obligations.SineTableIsAntisymmetric : Prop :=
  (List.range 65).map (fun a => (memRead .sin (BitVec.ofNat 8 a)).toNat) =
    [128, 131, 134, 137, 140, 143, 146, 149, 152, 155, 158, 162, 165, 167, 170, 173,
     176, 179, 182, 185, 188, 190, 193, 196, 198, 201, 203, 206, 208, 211, 213, 215,
     218, 220, 222, 224, 226, 228, 230, 232, 234, 235, 237, 238, 240, 241, 243, 244,
     245, 246, 248, 249, 250, 250, 251, 252, 253, 253, 254, 254, 254, 255, 255, 255,
     255] ∧
  (∀ a : Nat, a ≤ 64 → memRead .sin (BitVec.ofNat 8 (64 + a)) = memRead .sin (BitVec.ofNat 8 (64 - a))) ∧
  memRead .sin 0 = 128 ∧ memRead .sin 64 = 255 ∧ memRead .sin 128 = 128 ∧ memRead .sin 192 = 0 ∧
  ∀ a : Byte, a.toNat % 128 ≠ 0 → (memRead .sin a).toNat + (memRead .sin (a + 128)).toNat = 255

/-- R240, R241: the default `FREQMAP` is admissible: 1024 codes, strictly increasing from 3277 to 1310720; and
its entry `F` at `k` is `0.05 × 400^(k/1023) × 65536` rounded to nearest, said in whole numbers: the 1023rd
power of `F − 1/2 ≤ 32768/10 × 400^(k/1023) < F + 1/2`. -/
def Obligations.FreqMapIsAdmissible : Prop :=
  freqMapEntry 0 = 3277 ∧ freqMapEntry 1023 = 1310720 ∧
  (∀ k, k < 1023 → freqMapEntry k < freqMapEntry (k + 1)) ∧
  (∀ k, k ≤ 1023 → 3277 ≤ freqMapEntry k ∧ freqMapEntry k ≤ 1310720) ∧
  (∀ k, k ≤ 1023 →
    (10 * freqMapEntry k - 5) ^ 1023 ≤ 32768 ^ 1023 * 400 ^ k ∧
    32768 ^ 1023 * 400 ^ k < (10 * freqMapEntry k + 5) ^ 1023) ∧
  (∀ k, k ≤ 1023 → (defaultParams.freqMap.getD k 0).toNat = freqMapEntry k) ∧
  defaultParams.Admissible

/-- R154: channel `i` is modulated by channel `(i + 3) mod 4`, never by itself. -/
def Obligations.RingReadsAnotherChannel : Prop :=
  ∀ i : ChIx, (src i).val = (i.val + 3) % 4 ∧ src i ≠ i

/-- R155: what a channel offers its neighbour: the square, the sine, or Random Slope's value for these kinds,
and the triangle at its primary phase for every other. -/
def Obligations.SourceSampleCollapsesDerivedKinds : Prop :=
  ∀ c : Channel,
    (c.kind = 1 → (srcSample c).toNat = entry .sqr c.phase) ∧
    (c.kind = 2 → (srcSample c).toNat = entry .sin c.phase) ∧
    (c.kind = 3 → srcSample c = sample ((c.rsCur : ℚ) / 2 ^ 32)) ∧
    (c.kind ≠ 1 → c.kind ≠ 2 → c.kind ≠ 3 → (srcSample c).toNat = entry .tri c.phase)

/-! ## The whole machine -/

/-- R45: the reset values the spec gives, at power-on, whatever the parameters are: `TREF` is the clock value of
that moment. `State.reset` is this state with the default parameters of R11 (log entry 12). -/
def Obligations.PowerOnState : Prop :=
  State.reset = State.powerOn defaultParams ∧ ∀ p : Params,
  (∀ i : ChIx, ∃ r : BitVec 2, (State.powerOn p).ch i =
    { kind := 0, freq := 0x010000, phase := 0, out := 0
      rsCur := 128 * 2 ^ 32, rsTgt := 128, rsStep := 0, rsLast := 0
      wkCnt := 0, wkDur := 200, wkMult := 2 ^ 32
      rtSt := .bursting, rtCnt := 0, rtBdur := 80, rtPcnt := 0, rtPdur := 100, rtBcount := 0
      rtMaxb := 3, rtMult := 4, tsSel := r, tsPhase := 0
      swBreath := 0, swSp0 := 0, swSp1 := 0, swSp2 := 0, pnPhase := 0
      gvCur := 2 ^ 32, gvTgt := 2 ^ 32 }) ∧
  (State.powerOn p).sel = 0 ∧ (State.powerOn p).tref = (State.powerOn p).now ∧
  (State.powerOn p).ticked = false ∧ (State.powerOn p).params = p

/-- The invariant of R293 holds at power-on, whatever the parameters are. -/
def Obligations.InvariantHoldsAtReset : Prop := State.reset.Inv ∧ ∀ p : Params, (State.powerOn p).Inv

/-- R293, R43: every step keeps the invariant: legal kinds, `RS_CUR` in 0..255 with the ramp pointing at its
target, the Wonky and Ratchet ranges, registers inside their widths, `TREF` and `RS_LAST` not ahead of the
clock. No step changes the parameters (R11, R12, R65). -/
def Obligations.EveryStepKeepsTheInvariant : Prop :=
  ∀ s t : State, s.Inv → step s = .next t → t.Inv ∧ t.params = s.params

/-- R149, R286: no accumulator ever decreases, in any step but a `RESET`. -/
def Obligations.AccumulatorsNeverDecrease : Prop :=
  ∀ s t : State, step s = .next t →
    (∀ c ∈ s.port.head?, s.hand.live = false → decodeCommand c.word ≠ .ok .reset) →
    ∀ i : ChIx, Grows (s.ch i) (t.ch i)

/-- R258: the output ports change only in a pass and at reset. -/
def Obligations.OutputsChangeOnlyInAPass : Prop :=
  ∀ s t : State, s.hand.live = false → step s = .next t →
    (∀ c ∈ s.port.head?, decodeCommand c.word ≠ .ok .reset ∧ decodeCommand c.word ≠ .ok .poll) →
    ∀ i : ChIx, t.outPort i = s.outPort i

/-- R282: cutting every phase register to 8 whole bits after every write changes no other register, now or
later: a step of the cut state leaves, once cut, what a step of the full state leaves. -/
def Obligations.CutPhasesRunAlike : Prop :=
  ∀ s : State, wrapResult (step s.wrap) = wrapResult (step s)

/-- R292: in a pass, the new registers of a channel depend only on its own registers, on what its ring neighbour
offers (its `KIND`, `PHASE` and `RS_CUR`) and, for the four kinds that draw, on the random source at its turn:
no channel reads another through its neighbour, nor any third channel. -/
def Obligations.NoChannelReadsBeyondItsNeighbour : Prop :=
  ∀ (a b a' b' : State) (i : ChIx),
    a.ch i = b.ch i → a.now = b.now → a.tref = b.tref →
    (a.ch (src i)).kind = (b.ch (src i)).kind → (a.ch (src i)).phase = (b.ch (src i)).phase →
    (a.ch (src i)).rsCur = (b.ch (src i)).rsCur →
    ((a.ch i).kind.toNat ∈ [0, 1, 2, 5, 7, 8, 9, 10] ∨ randAtTurn a i = randAtTurn b i) →
    exec .poll a = .next a' → exec .poll b = .next b' → a'.ch i = b'.ch i
end

