-- ==== Sys2Proof/Laws/Config.lean ====
section
/-!
SUPPORT. The values of the configuration's fields, one lemma each (R5 to R10), of the two constants
computed from them, the widths of the words, and the default parameters.
-/

namespace Sys2Proof

@[simp] theorem cfg_nCh : cfg.nCh = 4 := rfl
@[simp] theorem cfg_tableSize : cfg.tableSize = 256 := rfl
@[simp] theorem cfg_nKinds : cfg.nKinds = 12 := rfl
@[simp] theorem cfg_ringOffset : cfg.ringOffset = 3 := rfl
@[simp] theorem cfg_tickUs : cfg.tickUs = 400 := rfl
@[simp] theorem cfg_fMin : cfg.fMin = 1 / 20 := rfl
@[simp] theorem cfg_fMax : cfg.fMax = 20 := rfl
@[simp] theorem cfg_fracBits : cfg.fracBits = 32 := rfl
@[simp] theorem cfg_hzFracBits : cfg.hzFracBits = 16 := rfl
@[simp] theorem cfg_normBits : cfg.normBits = 10 := rfl
@[simp] theorem cfg_timeBits : cfg.timeBits = 64 := rfl
@[simp] theorem cfg_fmDepthHz : cfg.fmDepthHz = 20 := rfl
@[simp] theorem cfg_fmFLo : cfg.fmFLo = 1 / 100 := rfl
@[simp] theorem cfg_fmFHi : cfg.fmFHi = 25 := rfl
@[simp] theorem cfg_amDepth : cfg.amDepth = 1 := rfl
@[simp] theorem cfg_trisineRatios : cfg.trisineRatios = [1618 / 1000, 133 / 100, 17 / 10, 1732 / 1000] := rfl
@[simp] theorem cfg_trisineClamp : cfg.trisineClamp = 127 := rfl
@[simp] theorem cfg_swarmBreathHz : cfg.swarmBreathHz = 1 / 4 := rfl
@[simp] theorem cfg_swarmRatio0 : cfg.swarmRatio0 = 8 := rfl
@[simp] theorem cfg_swarmRatio1 : cfg.swarmRatio1 = 11 := rfl
@[simp] theorem cfg_swarmRatio2 : cfg.swarmRatio2 = 7 := rfl
@[simp] theorem cfg_swarmWeight0 : cfg.swarmWeight0 = 45 / 100 := rfl
@[simp] theorem cfg_swarmWeight1 : cfg.swarmWeight1 = 32 / 100 := rfl
@[simp] theorem cfg_swarmWeight2 : cfg.swarmWeight2 = 40 / 100 := rfl
@[simp] theorem cfg_swarmAmpLo : cfg.swarmAmpLo = 1 / 10 := rfl
@[simp] theorem cfg_swarmAmpHi : cfg.swarmAmpHi = 9 / 10 := rfl
@[simp] theorem cfg_pendDetune : cfg.pendDetune = 95 / 100 := rfl
@[simp] theorem cfg_gravRetargetPerMille : cfg.gravRetargetPerMille = 4 := rfl
@[simp] theorem cfg_gravLo : cfg.gravLo = 1 / 10 := rfl
@[simp] theorem cfg_gravHi : cfg.gravHi = 5 := rfl
@[simp] theorem cfg_gravPull : cfg.gravPull = 18 / 100 := rfl
@[simp] theorem cfg_ratMultLo : cfg.ratMultLo = 2 := rfl
@[simp] theorem cfg_ratMultHi : cfg.ratMultHi = 8 := rfl
@[simp] theorem cfg_ratBurstLo : cfg.ratBurstLo = 30 := rfl
@[simp] theorem cfg_ratBurstHi : cfg.ratBurstHi = 130 := rfl
@[simp] theorem cfg_ratLongLo : cfg.ratLongLo = 200 := rfl
@[simp] theorem cfg_ratLongHi : cfg.ratLongHi = 600 := rfl
@[simp] theorem cfg_ratMaxbLo : cfg.ratMaxbLo = 2 := rfl
@[simp] theorem cfg_ratMaxbHi : cfg.ratMaxbHi = 5 := rfl
@[simp] theorem cfg_ratShortLo : cfg.ratShortLo = 50 := rfl
@[simp] theorem cfg_ratShortHi : cfg.ratShortHi = 150 := rfl
@[simp] theorem cfg_ratStutPct : cfg.ratStutPct = 10 := rfl
@[simp] theorem cfg_ratStutLo : cfg.ratStutLo = 10 := rfl
@[simp] theorem cfg_ratStutHi : cfg.ratStutHi = 30 := rfl
@[simp] theorem cfg_wkJitPct : cfg.wkJitPct = 5 := rfl
@[simp] theorem cfg_wkLongPct : cfg.wkLongPct = 80 := rfl
@[simp] theorem cfg_wkLongLo : cfg.wkLongLo = 200 := rfl
@[simp] theorem cfg_wkLongHi : cfg.wkLongHi = 800 := rfl
@[simp] theorem cfg_wkShortLo : cfg.wkShortLo = 10 := rfl
@[simp] theorem cfg_wkShortHi : cfg.wkShortHi = 80 := rfl
@[simp] theorem cfg_wkGentlePct : cfg.wkGentlePct = 70 := rfl
@[simp] theorem cfg_wkMultLo : cfg.wkMultLo = 6 / 10 := rfl
@[simp] theorem cfg_wkMultHi : cfg.wkMultHi = 16 / 10 := rfl
@[simp] theorem cfg_wkNudgeThresh : cfg.wkNudgeThresh = 125 / 100 := rfl
@[simp] theorem cfg_wkJitMax : cfg.wkJitMax = 4 := rfl
@[simp] theorem cfg_wkDriftLo : cfg.wkDriftLo = 5 / 100 := rfl
@[simp] theorem cfg_wkDriftHi : cfg.wkDriftHi = 30 / 100 := rfl
@[simp] theorem cfg_wkGlitchLo : cfg.wkGlitchLo = 50 := rfl
@[simp] theorem cfg_wkGlitchHi : cfg.wkGlitchHi = 180 := rfl
@[simp] theorem cfg_wkNudgePct : cfg.wkNudgePct = 2 := rfl
@[simp] theorem cfg_wkNudgeMax : cfg.wkNudgeMax = 8 := rfl
@[simp] theorem cfg_gravDrawLo : cfg.gravDrawLo = 10 := rfl
@[simp] theorem cfg_gravDrawHi : cfg.gravDrawHi = 500 := rfl
@[simp] theorem cfg_gravDrawDen : cfg.gravDrawDen = 100 := rfl

/-- The widths of the words are those `CFG` gives (R8). -/
theorem time_width : Time = BitVec cfg.timeBits := rfl
theorem mapCode_width : MapCode = BitVec cfg.normBits := rfl
theorem freqCode_width : FreqCode = BitVec (8 + cfg.hzFracBits) := rfl

/-- An entry of the default table is the listing's (R240). -/
theorem defaultParams_getD {k : Nat} (h : k < 1024) :
    defaultParams.freqMap.getD k 0 = BitVec.ofNat 24 (freqMapEntry k) := by
  simp [defaultParams, List.getD_eq_getElem?_getD, h]

@[simp] theorem defaultParams_schedAdvance : defaultParams.schedAdvance = .grid := rfl

@[simp] theorem Machine.gridScale_eq : Machine.gridScale = 2 ^ 32 := rfl

theorem Machine.sampleRate_eq : Machine.sampleRate = 2500 := by
  norm_num [Machine.sampleRate]

theorem Machine.inc_eq (f : ℚ) : Machine.inc f = f * (64 / 625) := by
  simp only [Machine.inc, Machine.sampleRate_eq, cfg_tableSize]
  push_cast
  ring

end Sys2Proof
end

