-- ==== Sys2Proof/Laws/Decode.lean ====
section
/-!
SUPPORT. The fields of a command word that the encoder builds (R81).
-/

namespace Sys2Proof

theorem opField_commandWord (op : BitVec 4) (ch : ChIx) (imm : BitVec 24) :
    opField (commandWord op ch imm) = op := by
  ext i hi
  simp only [opField, commandWord, BitVec.getElem_extractLsb', BitVec.getLsbD_append]
  simp [show ¬ 28 + i < 24 by omega, show 28 + i - 24 - 2 - 2 = i by omega,
    show ¬ 28 + i - 24 < 2 by omega, show ¬ 28 + i - 24 - 2 < 2 by omega, hi]

theorem immField_commandWord (op : BitVec 4) (ch : ChIx) (imm : BitVec 24) :
    immField (commandWord op ch imm) = imm := by
  ext i hi
  simp only [immField, commandWord, BitVec.getElem_extractLsb', BitVec.getLsbD_append]
  simp [hi]

theorem chField_commandWord (op : BitVec 4) (ch : ChIx) (imm : BitVec 24) :
    chField (commandWord op ch imm) = ch := by
  have h : (commandWord op ch imm).extractLsb' 26 2 = BitVec.ofNat 2 ch.val := by
    ext i hi
    simp only [commandWord, BitVec.getElem_extractLsb', BitVec.getLsbD_append]
    simp [show ¬ 26 + i < 24 by omega, show ¬ 26 + i - 24 < 2 by omega,
      show 26 + i - 24 - 2 = i by omega, hi, BitVec.getElem_eq_testBit_toNat]
  rw [chField, h]
  fin_cases ch <;> rfl

end Sys2Proof
end

