-- ==== Sys2Proof/Laws/Draws.lean ====
section
/-!
SUPPORT. What a draw does (R150, R151): its number lies in the range, and it takes one answer.
-/

namespace Sys2Proof.Machine

theorem freeDraw_ge (n : Nat) {lo hi : Int} (h : lo ≤ hi) : lo ≤ freeDraw n lo hi := by
  have := Int.emod_nonneg (Config.rng n : Int) (b := hi - lo + 1) (by omega)
  unfold freeDraw
  omega

theorem freeDraw_le (n : Nat) {lo hi : Int} (h : lo ≤ hi) : freeDraw n lo hi ≤ hi := by
  have := Int.emod_lt_of_pos (Config.rng n : Int) (b := hi - lo + 1) (by omega)
  unfold freeDraw
  omega

theorem drawValue_ge (r : Rand) {lo hi : Int} (h : lo ≤ hi) : lo ≤ drawValue r lo hi := by
  unfold drawValue
  split
  · exact freeDraw_ge _ h
  · split_ifs with hr
    · exact hr.1
    · exact freeDraw_ge _ h

theorem drawValue_le (r : Rand) {lo hi : Int} (h : lo ≤ hi) : drawValue r lo hi ≤ hi := by
  unfold drawValue
  split
  · exact freeDraw_le _ h
  · split_ifs with hr
    · exact hr.2
    · exact freeDraw_le _ h

/-- An answer fixed in advance, inside the range, is the number drawn. -/
theorem drawValue_fixed (a : Int) (rest : List Int) (n : Nat) {lo hi : Int} (h1 : lo ≤ a) (h2 : a ≤ hi) :
    drawValue { answers := a :: rest, taken := n } lo hi = a := by
  simp [drawValue, h1, h2]

theorem draw_ge (r : Rand) {lo hi : Int} (h : lo ≤ hi) : lo ≤ (draw r lo hi).1 := drawValue_ge r h

theorem draw_le (r : Rand) {lo hi : Int} (h : lo ≤ hi) : (draw r lo hi).1 ≤ hi := drawValue_le r h

@[simp] theorem draw_snd (r : Rand) (lo hi : Int) : (draw r lo hi).2 = r.advance := rfl

@[simp] theorem chance_snd (r : Rand) (p d : Int) : (chance r p d).2 = r.advance := rfl

@[simp] theorem Rand.advance_taken (r : Rand) : r.advance.taken = r.taken + 1 := rfl

@[simp] theorem Rand.advance_answers (r : Rand) : r.advance.answers = r.answers.tail := rfl

end Sys2Proof.Machine
end

