-- ==== Sys2Proof/Laws/Numerics.lean ====
section
/-!
SUPPORT. What the numeric primitives do (R140 to R149): one group of lemmas per primitive, which later
proofs cite instead of unfolding it.
-/

namespace Sys2Proof.Machine

/-! ## The grid -/

theorem fixVal_eq (n : Int) : fixVal n = (n : ℚ) / 2 ^ 32 := by norm_num [fixVal]

theorem fixVal_nonneg {n : Int} (h : 0 ≤ n) : 0 ≤ fixVal n := by
  rw [fixVal_eq]
  positivity

theorem fixVal_mul_scale (n : Int) : fixVal n * 2 ^ 32 = n := by
  rw [fixVal_eq]
  field_simp

theorem Q_eq (x : ℚ) : Q x = ⌊x * 2 ^ 32⌋ := by norm_num [Q]

theorem Qc_eq (x : ℚ) : Qc x = ⌈x * 2 ^ 32⌉ := by norm_num [Qc]

/-- A grid value is its own quantised value (R141). -/
@[simp] theorem Q_fixVal (n : Int) : Q (fixVal n) = n := by
  rw [Q_eq, fixVal_mul_scale, Int.floor_intCast]

@[simp] theorem Qc_fixVal (n : Int) : Qc (fixVal n) = n := by
  rw [Qc_eq, fixVal_mul_scale, Int.ceil_intCast]

/-- `Q(x + g) = Q(x) + g` for a grid value `g` (R141). -/
theorem Q_fixVal_add (n : Int) (x : ℚ) : Q (fixVal n + x) = n + Q x := by
  rw [Q_eq, Q_eq, add_mul, fixVal_mul_scale, Int.floor_intCast_add]

theorem Q_mono {x y : ℚ} (h : x ≤ y) : Q x ≤ Q y := by
  rw [Q_eq, Q_eq]
  exact Int.floor_le_floor (by linarith)

theorem Q_nonneg {x : ℚ} (h : 0 ≤ x) : 0 ≤ Q x := by
  rw [Q_eq]
  exact Int.floor_nonneg.mpr (by linarith)

theorem Qc_nonneg {x : ℚ} (h : 0 ≤ x) : 0 ≤ Qc x := by
  rw [Qc_eq]
  exact Int.ceil_nonneg (by linarith)

/-- `n ≤ Q(x)` says that the grid value `n` is not above `x`. -/
theorem le_Q_iff (n : Int) (x : ℚ) : n ≤ Q x ↔ (n : ℚ) ≤ x * 2 ^ 32 := by
  rw [Q_eq]
  exact Int.le_floor

theorem Q_lt_iff (n : Int) (x : ℚ) : Q x < n ↔ x * 2 ^ 32 < (n : ℚ) := by
  rw [Q_eq]
  exact Int.floor_lt

/-- `Qc(x) ≤ n` says that the grid value `n` is not below `x`. -/
theorem Qc_le_iff (n : Int) (x : ℚ) : Qc x ≤ n ↔ x * 2 ^ 32 ≤ (n : ℚ) := by
  rw [Qc_eq]
  exact Int.ceil_le

/-! ## Clamps -/

theorem clampInt_ge {x lo hi : Int} (h : lo ≤ hi) : lo ≤ clampInt x lo hi := by
  unfold clampInt
  split_ifs <;> omega

theorem clampInt_le {x lo hi : Int} (h : lo ≤ hi) : clampInt x lo hi ≤ hi := by
  unfold clampInt
  split_ifs <;> omega

theorem clamp_ge {x lo hi : ℚ} (h : lo ≤ hi) : lo ≤ clamp x lo hi := by
  unfold clamp
  split_ifs <;> linarith

theorem clamp_le {x lo hi : ℚ} (h : lo ≤ hi) : clamp x lo hi ≤ hi := by
  unfold clamp
  split_ifs <;> linarith

/-- A value inside the bounds is left as it is. -/
theorem clamp_id {x lo hi : ℚ} (h1 : lo ≤ x) (h2 : x ≤ hi) : clamp x lo hi = x := by
  unfold clamp
  split_ifs <;> linarith

/-- The result of `clampQ` is not below `Qc(lo)` (R144). -/
theorem clampQ_ge {x lo hi : ℚ} (h : Qc lo ≤ Q hi) : Qc lo ≤ clampQ x lo hi := clampInt_ge h

/-- The result of `clampQ` is not above `Q(hi)` (R144). -/
theorem clampQ_le {x lo hi : ℚ} (h : Qc lo ≤ Q hi) : clampQ x lo hi ≤ Q hi := clampInt_le h

/-! ## Samples -/

/-- The sample of `q8` as a number (R145). -/
theorem q8_toNat (x : ℚ) : ((q8 x).toNat : Int) = clampInt ⌊x + 1 / 2⌋ 0 255 := by
  have h0 := clampInt_ge (x := ⌊x + 1 / 2⌋) (lo := 0) (hi := 255) (by norm_num)
  have h1 := clampInt_le (x := ⌊x + 1 / 2⌋) (lo := 0) (hi := 255) (by norm_num)
  rw [q8, BitVec.toNat_ofInt]
  omega

theorem bip_ge (s : Byte) : -1 ≤ bip s := by
  have : (0 : ℚ) ≤ (s.toNat : ℚ) := by positivity
  rw [bip, le_div_iff₀ (by norm_num)]
  linarith

theorem bip_le (s : Byte) : bip s ≤ 1 := by
  have h : (s.toNat : ℚ) ≤ 255 := by exact_mod_cast (by have := s.isLt; omega : s.toNat ≤ 255)
  rw [bip, div_le_iff₀ (by norm_num)]
  linarith

/-! ## Phases -/

theorem inc_nonneg {f : ℚ} (h : 0 ≤ f) : 0 ≤ inc f := by
  rw [inc_eq]
  positivity

/-- Each advance adds the fixed tuning word `Q(inc(f))` (R149). -/
theorem advance_eq (p : Nat) {f : ℚ} (h : 0 ≤ f) : advance p f = p + (Q (inc f)).toNat := by
  have hq := Q_nonneg (inc_nonneg h)
  rw [advance, Q_fixVal_add]
  omega

/-- A phase register never decreases (R149). -/
theorem le_advance (p : Nat) {f : ℚ} (h : 0 ≤ f) : p ≤ advance p f := by
  rw [advance_eq p h]
  omega

theorem idx_wrapPhase (p : Nat) : idx (wrapPhase p) = idx p := by
  have h : p % (256 * 2 ^ 32) / 2 ^ 32 % 256 = p / 2 ^ 32 % 256 := by omega
  simp only [idx, wrapPhase, gridScale_eq, cfg_tableSize, h]

/-- Cutting a phase to 40 bits changes no table read (R282). -/
theorem lookup_wrapPhase (t : Table) (p : Nat) : lookup t (wrapPhase p) = lookup t p := by
  rw [lookup, lookup, idx_wrapPhase]

theorem wrapPhase_idem (p : Nat) : wrapPhase (wrapPhase p) = wrapPhase p := Nat.mod_mod _ _

/-- Advancing a cut phase and cutting it gives the cut advanced phase (R282). -/
theorem wrapPhase_advance (p : Nat) {f : ℚ} (h : 0 ≤ f) :
    wrapPhase (advance (wrapPhase p) f) = wrapPhase (advance p f) := by
  rw [advance_eq _ h, advance_eq _ h]
  simp only [wrapPhase]
  omega

end Sys2Proof.Machine
end

