-- ==== Sys2Proof/Laws/State.lean ====
section
/-!
SUPPORT. The small lemmas of the state: reading a bank after a write, and one lemma per field per named
update of State, so that no later proof unfolds a record update.
-/

namespace Sys2Proof.Machine

/-! ## Banks -/

@[simp] theorem Bank.get_zero (b : Bank) : b.get 0 = b.c0 := rfl
@[simp] theorem Bank.get_one (b : Bank) : b.get 1 = b.c1 := rfl
@[simp] theorem Bank.get_two (b : Bank) : b.get 2 = b.c2 := rfl
@[simp] theorem Bank.get_three (b : Bank) : b.get 3 = b.c3 := rfl

@[simp] theorem Bank.get_set_same (b : Bank) (i : ChIx) (c : Channel) : (b.set i c).get i = c := by
  fin_cases i <;> rfl

theorem Bank.get_set_ne (b : Bank) {i j : ChIx} (h : j ≠ i) (c : Channel) :
    (b.set i c).get j = b.get j := by
  revert h
  fin_cases i <;> fin_cases j <;> intro h <;> first | rfl | exact absurd rfl h

/-- Two banks that agree on every channel are equal. -/
theorem Bank.ext_get {a b : Bank} (h : ∀ i : ChIx, a.get i = b.get i) : a = b := by
  cases a
  cases b
  have h0 := h 0
  have h1 := h 1
  have h2 := h 2
  have h3 := h 3
  simp only [Bank.get_zero, Bank.get_one, Bank.get_two, Bank.get_three] at h0 h1 h2 h3
  subst h0 h1 h2 h3
  rfl

/-! ## Replacing a channel -/

@[simp] theorem State.ch_setCh_same (s : State) (i : ChIx) (c : Channel) : (s.setCh i c).ch i = c :=
  Bank.get_set_same s.bank i c

theorem State.ch_setCh_ne (s : State) {i j : ChIx} (h : j ≠ i) (c : Channel) :
    (s.setCh i c).ch j = s.ch j :=
  Bank.get_set_ne s.bank h c

@[simp] theorem State.setCh_sel (s : State) (i : ChIx) (c : Channel) : (s.setCh i c).sel = s.sel := rfl
@[simp] theorem State.setCh_tref (s : State) (i : ChIx) (c : Channel) : (s.setCh i c).tref = s.tref := rfl
@[simp] theorem State.setCh_ticked (s : State) (i : ChIx) (c : Channel) :
    (s.setCh i c).ticked = s.ticked := rfl
@[simp] theorem State.setCh_rand (s : State) (i : ChIx) (c : Channel) : (s.setCh i c).rand = s.rand := rfl
@[simp] theorem State.setCh_now (s : State) (i : ChIx) (c : Channel) : (s.setCh i c).now = s.now := rfl
@[simp] theorem State.setCh_port (s : State) (i : ChIx) (c : Channel) : (s.setCh i c).port = s.port := rfl
@[simp] theorem State.setCh_hand (s : State) (i : ChIx) (c : Channel) : (s.setCh i c).hand = s.hand := rfl
@[simp] theorem State.setCh_params (s : State) (i : ChIx) (c : Channel) :
    (s.setCh i c).params = s.params := rfl

/-! ## Running an update on a channel -/

@[simp] theorem State.update_ch_same (s : State) (u : Update) (i : ChIx) (m : Byte) (t : Time) :
    (s.update u i m t).ch i = (u (s.ch i) m t s.rand).1 :=
  Bank.get_set_same s.bank i _

theorem State.update_ch_ne (s : State) (u : Update) {i j : ChIx} (h : j ≠ i) (m : Byte) (t : Time) :
    (s.update u i m t).ch j = s.ch j :=
  Bank.get_set_ne s.bank h _

@[simp] theorem State.update_rand (s : State) (u : Update) (i : ChIx) (m : Byte) (t : Time) :
    (s.update u i m t).rand = (u (s.ch i) m t s.rand).2 := rfl
@[simp] theorem State.update_sel (s : State) (u : Update) (i : ChIx) (m : Byte) (t : Time) :
    (s.update u i m t).sel = s.sel := rfl
@[simp] theorem State.update_tref (s : State) (u : Update) (i : ChIx) (m : Byte) (t : Time) :
    (s.update u i m t).tref = s.tref := rfl
@[simp] theorem State.update_ticked (s : State) (u : Update) (i : ChIx) (m : Byte) (t : Time) :
    (s.update u i m t).ticked = s.ticked := rfl
@[simp] theorem State.update_now (s : State) (u : Update) (i : ChIx) (m : Byte) (t : Time) :
    (s.update u i m t).now = s.now := rfl
@[simp] theorem State.update_port (s : State) (u : Update) (i : ChIx) (m : Byte) (t : Time) :
    (s.update u i m t).port = s.port := rfl
@[simp] theorem State.update_hand (s : State) (u : Update) (i : ChIx) (m : Byte) (t : Time) :
    (s.update u i m t).hand = s.hand := rfl
@[simp] theorem State.update_params (s : State) (u : Update) (i : ChIx) (m : Byte) (t : Time) :
    (s.update u i m t).params = s.params := rfl

/-! ## Running an update by itself -/

@[simp] theorem State.runUpdate_ch_same (s : State) (u : Update) :
    (s.runUpdate u).ch s.hand.chan = (u (s.ch s.hand.chan) s.hand.modulator s.hand.tMs s.rand).1 :=
  Bank.get_set_same s.bank _ _

theorem State.runUpdate_ch_ne (s : State) (u : Update) {j : ChIx} (h : j ≠ s.hand.chan) :
    (s.runUpdate u).ch j = s.ch j :=
  Bank.get_set_ne s.bank h _

@[simp] theorem State.runUpdate_rand (s : State) (u : Update) :
    (s.runUpdate u).rand = (u (s.ch s.hand.chan) s.hand.modulator s.hand.tMs s.rand).2 := rfl
@[simp] theorem State.runUpdate_sel (s : State) (u : Update) : (s.runUpdate u).sel = s.sel := rfl
@[simp] theorem State.runUpdate_tref (s : State) (u : Update) : (s.runUpdate u).tref = s.tref := rfl
@[simp] theorem State.runUpdate_ticked (s : State) (u : Update) : (s.runUpdate u).ticked = s.ticked := rfl
@[simp] theorem State.runUpdate_now (s : State) (u : Update) : (s.runUpdate u).now = s.now := rfl
@[simp] theorem State.runUpdate_port (s : State) (u : Update) : (s.runUpdate u).port = s.port := rfl
@[simp] theorem State.runUpdate_hand (s : State) (u : Update) :
    (s.runUpdate u).hand = { s.hand with live := false } := rfl
@[simp] theorem State.runUpdate_params (s : State) (u : Update) : (s.runUpdate u).params = s.params := rfl

/-! ## The control commands' writes -/

@[simp] theorem State.setFreq_ch_same (s : State) (i : ChIx) (f : FreqCode) :
    (s.setFreq i f).ch i = { s.ch i with freq := f } :=
  Bank.get_set_same s.bank i _
theorem State.setFreq_ch_ne (s : State) {i j : ChIx} (h : j ≠ i) (f : FreqCode) :
    (s.setFreq i f).ch j = s.ch j :=
  Bank.get_set_ne s.bank h _
@[simp] theorem State.setFreq_sel (s : State) (i : ChIx) (f : FreqCode) : (s.setFreq i f).sel = s.sel := rfl
@[simp] theorem State.setFreq_tref (s : State) (i : ChIx) (f : FreqCode) :
    (s.setFreq i f).tref = s.tref := rfl
@[simp] theorem State.setFreq_ticked (s : State) (i : ChIx) (f : FreqCode) :
    (s.setFreq i f).ticked = s.ticked := rfl
@[simp] theorem State.setFreq_rand (s : State) (i : ChIx) (f : FreqCode) :
    (s.setFreq i f).rand = s.rand := rfl
@[simp] theorem State.setFreq_now (s : State) (i : ChIx) (f : FreqCode) : (s.setFreq i f).now = s.now := rfl
@[simp] theorem State.setFreq_port (s : State) (i : ChIx) (f : FreqCode) :
    (s.setFreq i f).port = s.port := rfl
@[simp] theorem State.setFreq_hand (s : State) (i : ChIx) (f : FreqCode) :
    (s.setFreq i f).hand = s.hand := rfl
@[simp] theorem State.setFreq_params (s : State) (i : ChIx) (f : FreqCode) :
    (s.setFreq i f).params = s.params := rfl

@[simp] theorem State.setKind_ch_same (s : State) (i : ChIx) (k : KindCode) :
    (s.setKind i k).ch i = { s.ch i with kind := k } :=
  Bank.get_set_same s.bank i _
theorem State.setKind_ch_ne (s : State) {i j : ChIx} (h : j ≠ i) (k : KindCode) :
    (s.setKind i k).ch j = s.ch j :=
  Bank.get_set_ne s.bank h _
@[simp] theorem State.setKind_sel (s : State) (i : ChIx) (k : KindCode) : (s.setKind i k).sel = s.sel := rfl
@[simp] theorem State.setKind_tref (s : State) (i : ChIx) (k : KindCode) :
    (s.setKind i k).tref = s.tref := rfl
@[simp] theorem State.setKind_ticked (s : State) (i : ChIx) (k : KindCode) :
    (s.setKind i k).ticked = s.ticked := rfl
@[simp] theorem State.setKind_rand (s : State) (i : ChIx) (k : KindCode) :
    (s.setKind i k).rand = s.rand := rfl
@[simp] theorem State.setKind_now (s : State) (i : ChIx) (k : KindCode) : (s.setKind i k).now = s.now := rfl
@[simp] theorem State.setKind_port (s : State) (i : ChIx) (k : KindCode) :
    (s.setKind i k).port = s.port := rfl
@[simp] theorem State.setKind_hand (s : State) (i : ChIx) (k : KindCode) :
    (s.setKind i k).hand = s.hand := rfl
@[simp] theorem State.setKind_params (s : State) (i : ChIx) (k : KindCode) :
    (s.setKind i k).params = s.params := rfl

/-! ## The clock -/

/-- `t_ms = now div 1000` (R105). -/
@[simp] theorem State.tMs_toNat (s : State) : s.tMs.toNat = s.now.toNat / 1000 := BitVec.toNat_udiv

/-! ## Start-up -/

@[simp] theorem State.restart_sel (s : State) : s.restart.sel = 0 := rfl
@[simp] theorem State.restart_tref (s : State) : s.restart.tref = s.now := rfl
@[simp] theorem State.restart_ticked (s : State) : s.restart.ticked = false := rfl
@[simp] theorem State.restart_now (s : State) : s.restart.now = s.now := rfl
@[simp] theorem State.restart_port (s : State) : s.restart.port = s.port := rfl
@[simp] theorem State.restart_hand (s : State) : s.restart.hand = s.hand := rfl
@[simp] theorem State.restart_params (s : State) : s.restart.params = s.params := rfl
@[simp] theorem State.restart_rand (s : State) :
    s.restart.rand = s.rand.advance.advance.advance.advance := rfl

/-- After start-up every channel is at its reset values, with some ratio. -/
theorem State.restart_ch (s : State) (i : ChIx) : ∃ r, s.restart.ch i = Channel.reset r := by
  fin_cases i <;> exact ⟨_, rfl⟩

@[simp] theorem State.powerOn_params (p : Params) : (State.powerOn p).params = p := rfl

/-- At power-on every channel is at its reset values, with some ratio. -/
theorem State.powerOn_ch (p : Params) (i : ChIx) : ∃ r, (State.powerOn p).ch i = Channel.reset r := by
  fin_cases i <;> exact ⟨_, rfl⟩

/-! ## Accepting a command -/

@[simp] theorem State.accept_bank (s : State) (c : Command) (r : List Command) :
    (s.accept c r).bank = s.bank := rfl
@[simp] theorem State.accept_ch (s : State) (c : Command) (r : List Command) (i : ChIx) :
    (s.accept c r).ch i = s.ch i := rfl
@[simp] theorem State.accept_sel (s : State) (c : Command) (r : List Command) :
    (s.accept c r).sel = s.sel := rfl
@[simp] theorem State.accept_tref (s : State) (c : Command) (r : List Command) :
    (s.accept c r).tref = s.tref := rfl
@[simp] theorem State.accept_ticked (s : State) (c : Command) (r : List Command) :
    (s.accept c r).ticked = s.ticked := rfl
@[simp] theorem State.accept_rand (s : State) (c : Command) (r : List Command) :
    (s.accept c r).rand = s.rand := rfl
@[simp] theorem State.accept_now (s : State) (c : Command) (r : List Command) :
    (s.accept c r).now = c.now := rfl
@[simp] theorem State.accept_port (s : State) (c : Command) (r : List Command) :
    (s.accept c r).port = r := rfl
@[simp] theorem State.accept_hand (s : State) (c : Command) (r : List Command) :
    (s.accept c r).hand = s.hand := rfl
@[simp] theorem State.accept_params (s : State) (c : Command) (r : List Command) :
    (s.accept c r).params = s.params := rfl

end Sys2Proof.Machine
end

