-- ==== Sys2Proof/Laws/Ops.lean ====
section
/-!
SUPPORT. What the shared operations can do: one update, one channel's turn in a pass, a pass, a poll, one
step. Later proofs cite these instead of unfolding the machine.
-/

namespace Sys2Proof.Machine

/-! ## Frames -/

/-- An update taken by itself leaves everything alone but its channel and the random source (R37, R112). -/
theorem State.runUpdate_frame (s : State) (u : Update) : UpdateFrame s (s.runUpdate u) :=
  ⟨fun _ h => State.runUpdate_ch_ne s u h, rfl, rfl, rfl, rfl, rfl, rfl⟩

/-- A write of `FREQ[i]` leaves everything else alone (R121). -/
theorem State.setFreq_frame (s : State) (i : ChIx) (f : FreqCode) : CommandFrame i s (s.setFreq i f) :=
  ⟨fun _ h => State.setFreq_ch_ne s h f, rfl, rfl, rfl, rfl, rfl, rfl, rfl, rfl⟩

/-- A write of `KIND[i]` leaves everything else alone (R128). -/
theorem State.setKind_frame (s : State) (i : ChIx) (k : KindCode) : CommandFrame i s (s.setKind i k) :=
  ⟨fun _ h => State.setKind_ch_ne s h k, rfl, rfl, rfl, rfl, rfl, rfl, rfl, rfl⟩

theorem CommandFrame.refl (i : ChIx) (s : State) : CommandFrame i s s :=
  ⟨fun _ _ => rfl, rfl, rfl, rfl, rfl, rfl, rfl, rfl, rfl⟩

/-! ## The dispatch of kinds -/

/-- The instruction of a kind runs that kind's update on the channel handed over (R110). -/
theorem exec_of_updateOf {i : Instr} {u : Update} (h : updateOf i = some u) (s : State) :
    exec i s = .next (s.runUpdate u) := by
  cases i <;> simp only [updateOf, Option.some.injEq, reduceCtorEq] at h <;> subst h <;> rfl

/-- A legal kind code decodes to an instruction that has an update (R86, R110). -/
theorem decodeKind_legal {k : KindCode} (h : k.toNat ≤ 11) :
    ∃ i u, decodeKind k = .ok i ∧ updateOf i = some u ∧ kindUpdate k = some u := by
  have hk : k.toNat = 0 ∨ k.toNat = 1 ∨ k.toNat = 2 ∨ k.toNat = 3 ∨ k.toNat = 4 ∨ k.toNat = 5 ∨
      k.toNat = 6 ∨ k.toNat = 7 ∨ k.toNat = 8 ∨ k.toNat = 9 ∨ k.toNat = 10 ∨ k.toNat = 11 := by omega
  rcases hk with hk | hk | hk | hk | hk | hk | hk | hk | hk | hk | hk | hk <;>
    · simp only [kindUpdate, decodeKind, hk]
      exact ⟨_, _, rfl, rfl, rfl⟩

/-- An update is one of the twelve. -/
theorem kindUpdate_cases {k : KindCode} {u : Update} (h : kindUpdate k = some u) :
    u = updateTri ∨ u = updateSqr ∨ u = updateSin ∨ u = updateRsl ∨ u = updateWnk ∨ u = updateFm ∨
      u = updateRat ∨ u = updateTsn ∨ u = updateAm ∨ u = updateSwm ∨ u = updatePen ∨ u = updateGrv := by
  unfold kindUpdate at h
  split at h
  · rename_i i _
    cases i <;> simp only [updateOf, Option.some.injEq, reduceCtorEq] at h <;> subst h <;> simp
  · cases h

theorem State.illegalKind_eq_none_iff (s : State) : s.illegalKind = none ↔ s.kindsLegal := by
  have e : s.kindsLegal ↔ (s.ch 0).kind.toNat ≤ 11 ∧ (s.ch 1).kind.toNat ≤ 11 ∧
      (s.ch 2).kind.toNat ≤ 11 ∧ (s.ch 3).kind.toNat ≤ 11 := by
    simp [State.kindsLegal, Fin.forall_fin_succ]
  rw [e]
  simp only [State.illegalKind, State.kindPort, List.find?_eq_none, List.mem_cons, List.not_mem_nil,
    or_false, forall_eq_or_imp, forall_eq, decide_eq_true_eq, not_le]
  simp only [cfg_nKinds, Nat.lt_succ_iff]

/-! ## One channel's turn, and the pass -/

theorem State.updateChannel_ch_ne (s : State) {i j : ChIx} (h : j ≠ i) (m : Byte) (t : Time) :
    (s.updateChannel i m t).ch j = s.ch j := by
  unfold State.updateChannel
  split
  · exact State.update_ch_ne s _ h m t
  · rfl

theorem State.updateChannel_of_some (s : State) {i : ChIx} {u : Update}
    (h : kindUpdate (s.ch i).kind = some u) (m : Byte) (t : Time) :
    s.updateChannel i m t = s.update u i m t := by
  simp only [State.updateChannel, h]

@[simp] theorem State.updateChannel_sel (s : State) (i : ChIx) (m : Byte) (t : Time) :
    (s.updateChannel i m t).sel = s.sel := by
  unfold State.updateChannel
  split <;> rfl

@[simp] theorem State.updateChannel_tref (s : State) (i : ChIx) (m : Byte) (t : Time) :
    (s.updateChannel i m t).tref = s.tref := by
  unfold State.updateChannel
  split <;> rfl

@[simp] theorem State.updateChannel_ticked (s : State) (i : ChIx) (m : Byte) (t : Time) :
    (s.updateChannel i m t).ticked = s.ticked := by
  unfold State.updateChannel
  split <;> rfl

@[simp] theorem State.updateChannel_now (s : State) (i : ChIx) (m : Byte) (t : Time) :
    (s.updateChannel i m t).now = s.now := by
  unfold State.updateChannel
  split <;> rfl

@[simp] theorem State.updateChannel_port (s : State) (i : ChIx) (m : Byte) (t : Time) :
    (s.updateChannel i m t).port = s.port := by
  unfold State.updateChannel
  split <;> rfl

@[simp] theorem State.updateChannel_hand (s : State) (i : ChIx) (m : Byte) (t : Time) :
    (s.updateChannel i m t).hand = s.hand := by
  unfold State.updateChannel
  split <;> rfl

@[simp] theorem State.updateChannel_params (s : State) (i : ChIx) (m : Byte) (t : Time) :
    (s.updateChannel i m t).params = s.params := by
  unfold State.updateChannel
  split <;> rfl

@[simp] theorem State.pass_sel (s : State) : s.pass.sel = s.sel := by simp [State.pass]
@[simp] theorem State.pass_tref (s : State) : s.pass.tref = s.tref := by simp [State.pass]
@[simp] theorem State.pass_ticked (s : State) : s.pass.ticked = s.ticked := by simp [State.pass]
@[simp] theorem State.pass_now (s : State) : s.pass.now = s.now := by simp [State.pass]
@[simp] theorem State.pass_port (s : State) : s.pass.port = s.port := by simp [State.pass]
@[simp] theorem State.pass_params (s : State) : s.pass.params = s.params := by simp [State.pass]
@[simp] theorem State.pass_hand (s : State) : s.pass.hand = s.hand := by simp [State.pass]

/-- The state in which channel `i` has its turn in a pass over `s`: the channels before it have had theirs (R108). -/
def State.beforeTurn (s : State) (i : ChIx) : State :=
  match i with
  | 0 => s
  | 1 => s.updateChannel 0 (s.snapshot (src 0)) s.tMs
  | 2 => (s.updateChannel 0 (s.snapshot (src 0)) s.tMs).updateChannel 1 (s.snapshot (src 1)) s.tMs
  | 3 =>
    ((s.updateChannel 0 (s.snapshot (src 0)) s.tMs).updateChannel 1 (s.snapshot (src 1)) s.tMs).updateChannel 2
      (s.snapshot (src 2)) s.tMs

/-- A channel meets its turn as it stood at the start of the pass. -/
theorem State.beforeTurn_ch (s : State) (i : ChIx) : (s.beforeTurn i).ch i = s.ch i := by
  fin_cases i
  · rfl
  all_goals
    simp only [State.beforeTurn]
    repeat rw [State.updateChannel_ch_ne _ (by decide)]

/-- A channel's registers after a pass are those its own turn leaves: no later turn touches them. -/
theorem State.pass_ch_eq_turn (s : State) (i : ChIx) :
    s.pass.ch i = ((s.beforeTurn i).updateChannel i (s.snapshot (src i)) s.tMs).ch i := by
  fin_cases i <;>
    (simp only [State.pass, State.beforeTurn]
     repeat rw [State.updateChannel_ch_ne _ (by decide)]
     rfl)

/-- What a pass does to a channel (R106 to R110): its kind's update, from the channel as it stood at the start
of the pass, the snapshot sample of its source, and the random source as the channels before it left it. -/
theorem State.pass_ch (s : State) (i : ChIx) {u : Update} (h : kindUpdate (s.ch i).kind = some u) :
    s.pass.ch i = (u (s.ch i) (s.snapshot (src i)) s.tMs (s.beforeTurn i).rand).1 := by
  rw [State.pass_ch_eq_turn, State.updateChannel_of_some _ (by rw [State.beforeTurn_ch, h]),
    State.update_ch_same, State.beforeTurn_ch]

/-! ## The scheduler -/

/-- `TICKED`'s new value: at least 400 microseconds have gone by (R101). -/
theorem State.tickDue_iff (s : State) : s.tickDue = true ↔ 400 ≤ s.elapsed := decide_eq_true_iff

theorem State.tickDue_eq_false_iff (s : State) : s.tickDue = false ↔ s.elapsed < 400 := by
  rw [← Bool.not_eq_true, State.tickDue_iff, not_le]

/-- With a clock that has not gone back, the elapsed time is the difference (R101, R104). -/
theorem State.elapsed_eq (s : State) (h : s.tref.toNat ≤ s.now.toNat) :
    s.elapsed = s.now.toNat - s.tref.toNat := by
  unfold State.elapsed
  exact BitVec.toNat_sub_of_le (BitVec.le_def.mpr h)

/-- `SCHED_ADVANCE = now`: `TREF` takes the clock value (R103). -/
theorem State.nextTref_now {s : State} (hs : s.params.schedAdvance = .now) : s.nextTref = s.now := by
  simp only [State.nextTref, hs]

/-- `SCHED_ADVANCE = grid`: `TREF` moves on by whole intervals (R102). -/
theorem State.nextTref_toNat (s : State) (hs : s.params.schedAdvance = .grid) (h : s.tref.toNat ≤ s.now.toNat) :
    s.nextTref.toNat = s.tref.toNat + (s.now.toNat - s.tref.toNat) / 400 * 400 := by
  have h1 := s.now.isLt
  simp only [State.nextTref, hs, cfg_tickUs, State.elapsed_eq s h, BitVec.toNat_add,
    BitVec.toNat_ofNat]
  omega

/-- `TREF` never moves beyond the clock, whatever `SCHED_ADVANCE` is (R102, R103). -/
theorem State.nextTref_le (s : State) (h : s.tref.toNat ≤ s.now.toNat) : s.nextTref.toNat ≤ s.now.toNat := by
  cases hs : s.params.schedAdvance
  · rw [State.nextTref_toNat s hs h]
    omega
  · rw [State.nextTref_now hs]

/-- What a `POLL` does when it has a next state: it runs a pass over legal kinds when it is due, and only
clears `TICKED` when it is not (R101). -/
theorem execPoll_cases {s t : State} (h : execPoll s = .next t) :
    (s.tickDue = true ∧ s.kindsLegal ∧
      t = { State.pass { s with tref := s.nextTref } with ticked := true }) ∨
    (s.tickDue = false ∧ t = { s with ticked := false }) := by
  unfold execPoll at h
  split at h
  · rename_i hd
    split at h
    · rename_i hk
      injection h with h
      exact .inl ⟨hd, s.illegalKind_eq_none_iff.mp hk, h.symm⟩
    · cases h
  · rename_i hd
    injection h with h
    exact .inr ⟨by simpa using hd, h.symm⟩

/-- A due `POLL` over legal kinds runs a pass (R101). -/
theorem execPoll_due {s : State} (hd : s.tickDue = true) (hk : s.kindsLegal) :
    execPoll s = .next { State.pass { s with tref := s.nextTref } with ticked := true } := by
  simp only [execPoll, hd, if_true, s.illegalKind_eq_none_iff.mpr hk]

/-- A `POLL` that is not due only clears `TICKED` (R101). -/
theorem execPoll_not_due {s : State} (hd : s.tickDue = false) :
    execPoll s = .next { s with ticked := false } := by
  simp [execPoll, hd]

/-! ## Commands and kinds -/

/-- A command word decodes to an instruction without an update operation (R82). -/
theorem updateOf_decodeCommand {w : CmdWord} {i : Instr} (h : decodeCommand w = .ok i) : updateOf i = none := by
  unfold decodeCommand at h
  split at h <;> first
    | (injection h with h; subst h; rfl)
    | cases h

/-- A kind code decodes to an instruction with an update operation (R86, R110). -/
theorem updateOf_decodeKind {k : KindCode} {i : Instr} (h : decodeKind k = .ok i) :
    ∃ u, updateOf i = some u := by
  unfold decodeKind at h
  split at h <;> first
    | (injection h with h; subst h; exact ⟨_, rfl⟩)
    | cases h

/-- A command leaves the hand-over, the commands to come, the clock port and the parameters as they are. -/
theorem exec_command_frame {i : Instr} {s t : State} (hu : updateOf i = none) (h : exec i s = .next t) :
    t.hand = s.hand ∧ t.port = s.port ∧ t.now = s.now ∧ t.params = s.params := by
  cases i <;> simp only [updateOf, reduceCtorEq] at hu <;>
    try (injection h with h; subst h; exact ⟨rfl, rfl, rfl, rfl⟩)
  · rcases execPoll_cases h with ⟨_, _, rfl⟩ | ⟨_, rfl⟩ <;> simp
  · simp only [exec, execLoadk] at h
    injection h with h
    subst h
    split <;> exact ⟨rfl, rfl, rfl, rfl⟩

theorem State.setFreq_ch (s : State) (ch : ChIx) (f : FreqCode) (i : ChIx) :
    ∃ f' k', (s.setFreq ch f).ch i = { s.ch i with freq := f', kind := k' } := by
  by_cases hj : i = ch
  · subst hj
    exact ⟨_, _, State.setFreq_ch_same _ _ _⟩
  · exact ⟨_, _, State.setFreq_ch_ne _ hj _⟩

theorem State.setKind_ch (s : State) (ch : ChIx) (k : KindCode) (i : ChIx) :
    ∃ f' k', (s.setKind ch k).ch i = { s.ch i with freq := f', kind := k' } := by
  by_cases hj : i = ch
  · subst hj
    exact ⟨_, _, State.setKind_ch_same _ _ _⟩
  · exact ⟨_, _, State.setKind_ch_ne _ hj _⟩

/-- A command other than `RESET` and `POLL` writes no register of a channel but `FREQ` and `KIND` (R128). -/
theorem exec_command_ch {i : Instr} {s t : State} (h : exec i s = .next t) (hu : updateOf i = none)
    (hr : i ≠ .reset) (hp : i ≠ .poll) (j : ChIx) :
    ∃ f' k', t.ch j = { s.ch j with freq := f', kind := k' } := by
  cases i <;> simp only [updateOf, reduceCtorEq] at hu
  case nop =>
    injection h with h
    subst h
    exact ⟨_, _, rfl⟩
  case reset => exact absurd rfl hr
  case poll => exact absurd rfl hp
  case sethz ch code =>
    change Host.Outcome.next (s.setFreq ch code) = _ at h
    injection h with h
    subst h
    exact State.setFreq_ch _ _ _ _
  case setn ch code =>
    change Host.Outcome.next (s.setFreq ch (s.freqMap code)) = _ at h
    injection h with h
    subst h
    exact State.setFreq_ch _ _ _ _
  case loadk ch v =>
    simp only [exec, execLoadk] at h
    injection h with h
    subst h
    split
    · exact State.setKind_ch _ _ _ _
    · exact ⟨_, _, rfl⟩
  case wadv d =>
    change Host.Outcome.next (s.setKind s.selected (kindAfter d (s.ch s.selected).kind)) = _ at h
    injection h with h
    subst h
    exact State.setKind_ch _ _ _ _
  case selnx =>
    injection h with h
    subst h
    exact ⟨_, _, rfl⟩

/-! ## One step -/

/-- A step that has a next state is an update taken by itself, an idle step, a decoded command executed on
the state that accepted it, or a reserved word, which does nothing. -/
theorem step_cases {s t : State} (h : step s = .next t) :
    (s.hand.live = true ∧ ∃ i, decodeKind s.fetchKind = .ok i ∧ exec i s = .next t) ∨
    (s.hand.live = false ∧ s.port = [] ∧ t = s) ∨
    (s.hand.live = false ∧ ∃ c rest, s.port = c :: rest ∧ s.now.toNat ≤ c.now.toNat ∧
      ((∃ i, decodeCommand c.word = .ok i ∧ exec i (s.accept c rest) = .next t) ∨
        (∃ e, decodeCommand c.word = .error e ∧ t = s.accept c rest))) := by
  unfold step at h
  split at h
  · rename_i hl
    refine .inl ⟨hl, ?_⟩
    unfold stepUpdate at h
    split at h
    · rename_i i hi
      exact ⟨i, hi, h⟩
    · cases h
  · rename_i hl
    have hl' : s.hand.live = false := by simpa using hl
    split at h
    · rename_i hp
      injection h with h
      exact .inr (.inl ⟨hl', hp, h.symm⟩)
    · rename_i c rest hp
      refine .inr (.inr ⟨hl', c, rest, hp, ?_⟩)
      unfold stepCommand at h
      split at h
      · cases h
      · rename_i hc
        refine ⟨by simpa [State.clockWentBack] using hc, ?_⟩
        split at h
        · rename_i i hi
          exact .inl ⟨i, hi, h⟩
        · rename_i e he
          injection h with h
          exact .inr ⟨e, he, h.symm⟩

end Sys2Proof.Machine
end

