-- ==== Sys2Proof/Laws/PerInstr.lean ====
section
/-!
SUPPORT. What is shown of every instruction, one lemma per constructor. Family `TableRow`: the encoder's word
matches the `match` and `mask` of the instruction's row in spec/opcode_table.json (R82, R86).
-/

namespace Sys2Proof.Laws

/-- The row of spec/opcode_table.json: for a command the value of its fixed field `w[31:28]`, for a kind
the value of its fixed field `KIND[3:0]`. -/
inductive Row where
  /-- a row of format CMD, mask 0xF0000000 -/
  | cmd (op : BitVec 4)
  /-- a row of format KIND, mask 0xF -/
  | kind (code : BitVec 4)
  deriving DecidableEq, Repr

/-- The encoded instruction lies in the row. -/
def Row.holds : Row → Encoded → Prop
  | .cmd op, .command w => opField w = op
  | .kind code, .kind k => k = code
  | .cmd _, .kind _ => False
  | .kind _, .command _ => False

/-- The instruction's row in spec/opcode_table.json. -/
def tableRow : Instr → Row
  | .nop => .cmd 0x0
  | .reset => .cmd 0x1
  | .poll => .cmd 0x2
  | .sethz _ _ => .cmd 0x3
  | .setn _ _ => .cmd 0x4
  | .loadk _ _ => .cmd 0x5
  | .wadv _ => .cmd 0x6
  | .selnx => .cmd 0x7
  | .tri => .kind 0x0
  | .sqr => .kind 0x1
  | .sin => .kind 0x2
  | .rsl => .kind 0x3
  | .wnk => .kind 0x4
  | .fm => .kind 0x5
  | .rat => .kind 0x6
  | .tsn => .kind 0x7
  | .am => .kind 0x8
  | .swm => .kind 0x9
  | .pen => .kind 0xA
  | .grv => .kind 0xB

/-- The encoder's word of `i` lies in `i`'s row of the opcode table. -/
def TableRow.Statement (i : Instr) : Prop := (tableRow i).holds (encode i)

theorem TableRow.nop : TableRow.Statement .nop := opField_commandWord _ _ _
theorem TableRow.reset : TableRow.Statement .reset := opField_commandWord _ _ _
theorem TableRow.poll : TableRow.Statement .poll := opField_commandWord _ _ _
theorem TableRow.sethz (ch : ChIx) (code : FreqCode) : TableRow.Statement (.sethz ch code) :=
  opField_commandWord _ _ _
theorem TableRow.setn (ch : ChIx) (k : BitVec 10) : TableRow.Statement (.setn ch k) :=
  opField_commandWord _ _ _
theorem TableRow.loadk (ch : ChIx) (v : Byte) : TableRow.Statement (.loadk ch v) :=
  opField_commandWord _ _ _
theorem TableRow.wadv (d : Direction) : TableRow.Statement (.wadv d) := opField_commandWord _ _ _
theorem TableRow.selnx : TableRow.Statement .selnx := opField_commandWord _ _ _
theorem TableRow.tri : TableRow.Statement .tri := rfl
theorem TableRow.sqr : TableRow.Statement .sqr := rfl
theorem TableRow.sin : TableRow.Statement .sin := rfl
theorem TableRow.rsl : TableRow.Statement .rsl := rfl
theorem TableRow.wnk : TableRow.Statement .wnk := rfl
theorem TableRow.fm : TableRow.Statement .fm := rfl
theorem TableRow.rat : TableRow.Statement .rat := rfl
theorem TableRow.tsn : TableRow.Statement .tsn := rfl
theorem TableRow.am : TableRow.Statement .am := rfl
theorem TableRow.swm : TableRow.Statement .swm := rfl
theorem TableRow.pen : TableRow.Statement .pen := rfl
theorem TableRow.grv : TableRow.Statement .grv := rfl

end Sys2Proof.Laws
end

