-- ==== Sys2Proof/Laws/Updates.lean ====
section
/-!
SUPPORT. What the stages of the waveform updates can do: for each stage, one lemma that lists its cases with
everything it writes (R170 to R220), and the fields no update writes (R37, R112).
-/

namespace Sys2Proof.Machine

/-! ## Operands -/

theorem baseFreq_eq (c : Channel) : baseFreq c = (c.freq.toNat : ℚ) / 65536 := by
  norm_num [baseFreq]

theorem baseFreq_nonneg (c : Channel) : 0 ≤ baseFreq c := by
  rw [baseFreq_eq]
  positivity

theorem baseFreq_lt (c : Channel) : baseFreq c < 256 := by
  have h : (c.freq.toNat : ℚ) < 2 ^ 24 := by exact_mod_cast c.freq.isLt
  rw [baseFreq_eq, div_lt_iff₀ (by norm_num)]
  linarith

theorem burstOver_iff (c : Channel) : burstOver c = true ↔ c.rtBdur ≤ c.rtCnt + 1 := decide_eq_true_iff

theorem pauseOver_iff (c : Channel) : pauseOver c = true ↔ c.rtPdur ≤ c.rtPcnt + 1 := decide_eq_true_iff

theorem lastBurst_iff (c : Channel) : lastBurst c = true ↔ c.rtMaxb ≤ c.rtBcount + 1 := decide_eq_true_iff

/-- The retarget test as R181 writes it. -/
theorem retargetDue_iff (c : Channel) (tMs : Time) :
    retargetDue c tMs = true ↔
      1000 * 65536 ≤ ((tMs.toNat : Int) - (c.rsLast.toNat : Int)) * (c.freq.toNat : Int) := decide_eq_true_iff

/-! ## Random Slope -/

/-- Step 1 of `RSL`: nothing, or a new target, its time and its step (R181). -/
theorem retarget_cases (c : Channel) (tMs : Time) (r : Rand) :
    (retargetDue c tMs = false ∧ retarget c tMs r = (c, r)) ∨
    (retargetDue c tMs = true ∧ ∃ tgt : Byte, (tgt.toNat : Int) = (draw r 0 255).1 ∧
      retarget c tMs r =
        ({ c with rsLast := tMs, rsTgt := tgt, rsStep := slopeStep c tgt }, r.advance)) := by
  unfold retarget
  cases hd : retargetDue c tMs
  · exact .inl ⟨rfl, by simp⟩
  · refine .inr ⟨rfl, BitVec.ofInt 8 (draw r 0 255).1, ?_, by simp⟩
    have h0 := draw_ge r (lo := 0) (hi := 255) (by norm_num)
    have h1 := draw_le r (lo := 0) (hi := 255) (by norm_num)
    rw [BitVec.toNat_ofInt]
    omega

/-- Step 2 of `RSL` holds a rising value at or below the target and a falling one at or above it (R181). -/
theorem holdAtTarget_cases (v step tgt : Int) :
    (0 < step ∧ holdAtTarget v step tgt = min v tgt) ∨
    (step < 0 ∧ holdAtTarget v step tgt = max v tgt) ∨
    (step = 0 ∧ holdAtTarget v step tgt = v) := by
  unfold holdAtTarget
  rcases lt_trichotomy step 0 with h | h | h
  · refine .inr (.inl ⟨h, ?_⟩)
    split_ifs <;> omega
  · refine .inr (.inr ⟨h, ?_⟩)
    split_ifs <;> omega
  · refine .inl ⟨h, ?_⟩
    split_ifs <;> omega

/-! ## Wonky Triangle -/

/-- A jitter or a nudge: nothing, or `1 .. hi` whole index units added to the phase (R186). -/
theorem phaseKick_cases (pct hi : Int) (h : 1 ≤ hi) (c : Channel) (r : Rand) :
    (phaseKick pct hi c r).1 = c ∨
    ∃ n : Nat, 1 ≤ n ∧ (n : Int) ≤ hi ∧
      (phaseKick pct hi c r).1 = { c with phase := c.phase + n * 2 ^ 32 } := by
  unfold phaseKick
  split
  · have h0 := draw_ge (chance r pct 100).2 h
    have h1 := draw_le (chance r pct 100).2 h
    exact .inr ⟨(draw (chance r pct 100).2 1 hi).1.toNat, by omega, by omega, rfl⟩
  · exact .inl rfl

theorem wonkyHoldDraw_range (r : Rand) : 10 ≤ (wonkyHoldDraw r).1 ∧ (wonkyHoldDraw r).1 ≤ 800 := by
  unfold wonkyHoldDraw
  split
  · have h0 := draw_ge (chance r cfg.wkLongPct 100).2 (lo := cfg.wkLongLo) (hi := cfg.wkLongHi) (by simp)
    have h1 := draw_le (chance r cfg.wkLongPct 100).2 (lo := cfg.wkLongLo) (hi := cfg.wkLongHi) (by simp)
    simp only [cfg_wkLongLo, cfg_wkLongHi] at h0 h1 ⊢
    omega
  · have h0 := draw_ge (chance r cfg.wkLongPct 100).2 (lo := cfg.wkShortLo) (hi := cfg.wkShortHi) (by simp)
    have h1 := draw_le (chance r cfg.wkLongPct 100).2 (lo := cfg.wkShortLo) (hi := cfg.wkShortHi) (by simp)
    simp only [cfg_wkShortLo, cfg_wkShortHi] at h0 h1 ⊢
    omega

/-- Step 2 of `WNK`: count on, or clear the count with a new hold and a new clamped multiplier (R186). -/
theorem wonkyHold_cases (c : Channel) (r : Rand) :
    (c.wkCnt + 1 < c.wkDur ∧ wonkyHold c r = ({ c with wkCnt := c.wkCnt + 1 }, r)) ∨
    (c.wkDur ≤ c.wkCnt + 1 ∧ ∃ (d : Nat) (x : ℚ), 10 ≤ d ∧ d ≤ 800 ∧
      (wonkyHold c r).1 =
        { c with wkCnt := 0, wkDur := d, wkMult := (clampQ x (6 / 10) (16 / 10)).toNat }) := by
  unfold wonkyHold
  split
  · rename_i h
    have hr := wonkyHoldDraw_range r
    exact .inr ⟨h, (wonkyHoldDraw r).1.toNat, (wonkyMultDraw (baseFreq c) (wonkyHoldDraw r).2).1,
      by omega, by omega, rfl⟩
  · rename_i h
    exact .inl ⟨by omega, rfl⟩

/-- Step 3 of `WNK`: nothing, or 1 to 8 whole index units added to the phase (R186). -/
theorem wonkyNudge_cases (c : Channel) (r : Rand) :
    (wonkyNudge c r).1 = c ∨
    ∃ n : Nat, 1 ≤ n ∧ (n : Int) ≤ 8 ∧ (wonkyNudge c r).1 = { c with phase := c.phase + n * 2 ^ 32 } := by
  unfold wonkyNudge
  split
  · exact phaseKick_cases _ _ (by simp) c r
  · exact .inl rfl

/-! ## Ratchet Triangle -/

theorem pauseChoice_cases (c : Channel) (r : Rand) :
    (c.rtBcount + 1 < c.rtMaxb ∧ (pauseChoice c r).1.2 = (c.rtBcount + 1, c.rtMaxb) ∧
      50 ≤ (pauseChoice c r).1.1 ∧ (pauseChoice c r).1.1 ≤ 150) ∨
    (c.rtMaxb ≤ c.rtBcount + 1 ∧ (pauseChoice c r).1.2.1 = 0 ∧
      2 ≤ (pauseChoice c r).1.2.2 ∧ (pauseChoice c r).1.2.2 ≤ 5 ∧
      200 ≤ (pauseChoice c r).1.1 ∧ (pauseChoice c r).1.1 ≤ 600) := by
  unfold pauseChoice
  cases hl : lastBurst c
  · have hn : ¬ c.rtMaxb ≤ c.rtBcount + 1 := by rw [← lastBurst_iff, hl]; simp
    have h0 := draw_ge r (lo := cfg.ratShortLo) (hi := cfg.ratShortHi) (by simp)
    have h1 := draw_le r (lo := cfg.ratShortLo) (hi := cfg.ratShortHi) (by simp)
    simp only [cfg_ratShortLo, cfg_ratShortHi] at h0 h1
    refine .inl ⟨by omega, by simp, ?_, ?_⟩ <;>
    · simp only [cfg_ratShortLo, cfg_ratShortHi, Bool.false_eq_true, if_false]
      omega
  · have h := (lastBurst_iff c).mp hl
    have h0 := draw_ge r (lo := cfg.ratLongLo) (hi := cfg.ratLongHi) (by simp)
    have h1 := draw_le r (lo := cfg.ratLongLo) (hi := cfg.ratLongHi) (by simp)
    have h2 := draw_ge (draw r cfg.ratLongLo cfg.ratLongHi).2 (lo := cfg.ratMaxbLo) (hi := cfg.ratMaxbHi)
      (by simp)
    have h3 := draw_le (draw r cfg.ratLongLo cfg.ratLongHi).2 (lo := cfg.ratMaxbLo) (hi := cfg.ratMaxbHi)
      (by simp)
    simp only [cfg_ratLongLo, cfg_ratLongHi, cfg_ratMaxbLo, cfg_ratMaxbHi] at h0 h1 h2 h3
    refine .inr ⟨h, by simp, ?_, ?_, ?_, ?_⟩ <;>
    · simp only [cfg_ratLongLo, cfg_ratLongHi, cfg_ratMaxbLo, cfg_ratMaxbHi, if_true]
      omega

/-- The stutter keeps the pause or replaces it by 10 to 30 ticks (R195). -/
theorem stutter_cases (pdur : Nat) (r : Rand) :
    (stutter pdur r).1 = pdur ∨ (10 ≤ (stutter pdur r).1 ∧ (stutter pdur r).1 ≤ 30) := by
  unfold stutter
  dsimp only
  split
  · have h0 := draw_ge (chance r cfg.ratStutPct 100).2 (lo := cfg.ratStutLo) (hi := cfg.ratStutHi) (by simp)
    have h1 := draw_le (chance r cfg.ratStutPct 100).2 (lo := cfg.ratStutLo) (hi := cfg.ratStutHi) (by simp)
    simp only [cfg_ratStutLo, cfg_ratStutHi] at h0 h1 ⊢
    omega
  · exact .inl rfl

/-- The Bursting arm: one more tick of the burst, or the transition to Paused (R195). -/
theorem ratchetBurst_cases (c : Channel) (r : Rand) :
    (c.rtCnt + 1 < c.rtBdur ∧ ratchetBurst c r =
      ({ c with phase := advance c.phase (baseFreq c * (c.rtMult : ℚ)), rtCnt := c.rtCnt + 1 }, r)) ∨
    (c.rtBdur ≤ c.rtCnt + 1 ∧ ∃ pdur bcount maxb : Nat, 10 ≤ pdur ∧ pdur ≤ 600 ∧
      (bcount = c.rtBcount + 1 ∧ maxb = c.rtMaxb ∧ bcount < maxb ∨ bcount = 0 ∧ 2 ≤ maxb ∧ maxb ≤ 5) ∧
      (ratchetBurst c r).1 =
        { c with
          phase := advance c.phase (baseFreq c * (c.rtMult : ℚ))
          rtSt := .paused
          rtCnt := 0
          rtPcnt := 0
          rtBcount := bcount
          rtMaxb := maxb
          rtPdur := pdur }) := by
  unfold ratchetBurst
  cases hb : burstOver c
  · have hn : ¬ c.rtBdur ≤ c.rtCnt + 1 := by rw [← burstOver_iff, hb]; simp
    exact .inl ⟨by omega, by simp⟩
  · refine .inr ⟨(burstOver_iff c).mp hb, (stutter (pauseChoice c r).1.1 (pauseChoice c r).2).1,
      (pauseChoice c r).1.2.1, (pauseChoice c r).1.2.2, ?_, ?_, ?_, by simp⟩
    · rcases stutter_cases (pauseChoice c r).1.1 (pauseChoice c r).2 with h | h <;>
        rcases pauseChoice_cases c r with h' | h' <;> omega
    · rcases stutter_cases (pauseChoice c r).1.1 (pauseChoice c r).2 with h | h <;>
        rcases pauseChoice_cases c r with h' | h' <;> omega
    · rcases pauseChoice_cases c r with h' | h'
      · exact .inl ⟨by rw [h'.2.1], by rw [h'.2.1], by rw [h'.2.1]; exact h'.1⟩
      · exact .inr ⟨h'.2.1, h'.2.2.1, h'.2.2.2.1⟩

/-- The Paused arm: one more tick of the pause, or the transition to Bursting (R195). -/
theorem ratchetPause_cases (c : Channel) (r : Rand) :
    (c.rtPcnt + 1 < c.rtPdur ∧ ratchetPause c r = ({ c with rtPcnt := c.rtPcnt + 1 }, r)) ∨
    (c.rtPdur ≤ c.rtPcnt + 1 ∧ ∃ bdur mult : Nat, 30 ≤ bdur ∧ bdur ≤ 130 ∧ 2 ≤ mult ∧ mult ≤ 8 ∧
      ratchetPause c r =
        ({ c with rtSt := .bursting, rtCnt := 0, rtPcnt := 0, rtBdur := bdur, rtMult := mult },
          r.advance.advance)) := by
  unfold ratchetPause
  cases hp : pauseOver c
  · have hn : ¬ c.rtPdur ≤ c.rtPcnt + 1 := by rw [← pauseOver_iff, hp]; simp
    exact .inl ⟨by omega, by simp⟩
  · have h0 := draw_ge r (lo := cfg.ratBurstLo) (hi := cfg.ratBurstHi) (by simp)
    have h1 := draw_le r (lo := cfg.ratBurstLo) (hi := cfg.ratBurstHi) (by simp)
    have h2 := draw_ge r.advance (lo := cfg.ratMultLo) (hi := cfg.ratMultHi) (by simp)
    have h3 := draw_le r.advance (lo := cfg.ratMultLo) (hi := cfg.ratMultHi) (by simp)
    simp only [cfg_ratBurstLo, cfg_ratBurstHi, cfg_ratMultLo, cfg_ratMultHi] at h0 h1 h2 h3
    exact .inr ⟨(pauseOver_iff c).mp hp, (draw r 30 130).1.toNat, (draw r.advance 2 8).1.toNat,
      by omega, by omega, by omega, by omega, by simp⟩

/-! ## Gravity -/

/-- Step 1 of `GRV`: nothing, or a new target, whole hundredths of `b` from 10 to 500 (R201). -/
theorem gravityRetarget_cases (c : Channel) (r : Rand) :
    (gravityRetarget c r).1 = c ∨
    ∃ mm : Nat, 10 ≤ mm ∧ mm ≤ 500 ∧
      (gravityRetarget c r).1 = { c with gvTgt := (Q (baseFreq c * (mm : ℚ) / 100)).toNat } := by
  unfold gravityRetarget
  dsimp only
  split
  · have h0 := draw_ge (chance r cfg.gravRetargetPerMille 1000).2 (lo := cfg.gravDrawLo)
      (hi := cfg.gravDrawHi) (by simp)
    have h1 := draw_le (chance r cfg.gravRetargetPerMille 1000).2 (lo := cfg.gravDrawLo)
      (hi := cfg.gravDrawHi) (by simp)
    simp only [cfg_gravDrawLo, cfg_gravDrawHi] at h0 h1
    refine .inr ⟨(draw (chance r cfg.gravRetargetPerMille 1000).2 cfg.gravDrawLo cfg.gravDrawHi).1.toNat,
      ?_, ?_, ?_⟩
    · simp only [cfg_gravDrawLo, cfg_gravDrawHi]
      omega
    · simp only [cfg_gravDrawLo, cfg_gravDrawHi]
      omega
    · simp only [cfg_gravDrawLo, cfg_gravDrawHi, cfg_gravDrawDen]
      rw [← Int.cast_natCast (R := ℚ), Int.toNat_of_nonneg (by omega)]
  · exact .inl rfl

end Sys2Proof.Machine
end

