-- ==== Sys2Proof/Tests/Slice0.lean ====
section
/-!
SUPPORT. Tests. The expected values are those of spec/95_test_vectors.md (the vector's name is given) or of a
rule's own example; none was taken from a run of this model. The last part gives, for every statement that has
hypotheses, a concrete state and operands that meet them.
-/

namespace Sys2Proof.Tests

open Sys2Proof.Machine

/-! ## States -/

/-- A channel at its reset values, with the ratio 0. -/
def c0 : Channel := Channel.reset 0

/-- The machine with the default parameters after reset at clock 0, with all four ratios 0 and no draw taken. -/
def base : State where
  bank := { c0 := c0, c1 := c0, c2 := c0, c3 := c0 }
  sel := 0
  tref := 0
  ticked := false
  rand := { answers := [], taken := 0 }
  now := 0
  port := []
  hand := { live := false, chan := 0, modulator := 0, tMs := 0 }
  params := defaultParams

/-- Channel 1 is `c`, and its update is handed over with the modulator `m`, the time `t` and the draws `a`. -/
def on1 (c : Channel) (m : Byte) (t : Time) (a : List Int) : State :=
  { base.setCh 1 c with
    rand := { answers := a, taken := 0 }
    hand := { live := true, chan := 1, modulator := m, tMs := t } }

/-- Channel 1 and the number of draws taken, in a next state. -/
def out1 : Result → Option (Channel × Nat)
  | .next t => some (t.ch 1, t.rand.taken)
  | _ => none

/-- A property of the next state. -/
def after (p : State → Bool) : Result → Bool
  | .next t => p t
  | _ => false

/-- The host presents the word `w` with the clock value `n`. -/
def present (s : State) (w : CmdWord) (n : Time) : State :=
  { s with port := [{ word := w, now := n }] }

/-- The four waveform kinds 0, 3, 5, 11 on the four channels. -/
def mixed : State :=
  { base with
    bank :=
      { c0 := c0, c1 := { c0 with kind := 3 }, c2 := { c0 with kind := 5 }, c3 := { c0 with kind := 11 } } }

/-! ## WellFormed -/

theorem test_wf_sethz_zero : Instr.wellFormed (.sethz 0 0) = false := by decide
theorem test_wf_sethz_below : Instr.wellFormed (.sethz 3 3276) = false := by decide
theorem test_wf_sethz_above : Instr.wellFormed (.sethz 1 1310721) = false := by decide
theorem test_wf_sethz_bounds :
    Instr.wellFormed (.sethz 0 3277) = true ∧ Instr.wellFormed (.sethz 0 1310720) = true := by decide

/-! ## Decoding: section 2.2 of the vectors, one constructor each -/

theorem test_decode_nop : decodeCommand 0x00000000 = .ok .nop := by decide
theorem test_decode_reset : decodeCommand 0x10000000 = .ok .reset := by decide
theorem test_decode_poll : decodeCommand 0x20000000 = .ok .poll := by decide
/-- V-E5 -/
theorem test_decode_sethz : decodeCommand 0x34018000 = .ok (.sethz 1 98304) := by decide
/-- V-E10 -/
theorem test_decode_setn : decodeCommand 0x4C0003FF = .ok (.setn 3 1023) := by decide
/-- V-E14 -/
theorem test_decode_loadk : decodeCommand 0x5C0000FF = .ok (.loadk 3 255) := by decide
theorem test_decode_wadv_plus : decodeCommand 0x60000000 = .ok (.wadv .plusOne) := by decide
theorem test_decode_wadv_minus : decodeCommand 0x60000001 = .ok (.wadv .minusOne) := by decide
theorem test_decode_selnx : decodeCommand 0x70000000 = .ok .selnx := by decide
/-- V-E20, V-E21 -/
theorem test_decode_reserved :
    decodeCommand 0x80000000 = .error (.reservedOpcode 8) ∧
    decodeCommand 0xFFFFFFFF = .error (.reservedOpcode 15) := by decide
/-- V-E22 to V-E27: unused fields and `Z` are ignored. -/
theorem test_decode_ignored_fields :
    decodeCommand 0x33010000 = .ok (.sethz 0 65536) ∧ decodeCommand 0x6C000003 = .ok (.wadv .minusOne) ∧
    decodeCommand 0x44000600 = .ok (.setn 1 512) ∧ decodeCommand 0x5400010B = .ok (.loadk 1 11) ∧
    decodeCommand 0x2FFFFFFF = .ok .poll ∧ decodeCommand 0x1C123456 = .ok .reset := by decide
/-- The table of R86, code by code. -/
theorem test_decode_kinds :
    decodeKind 0b0000 = .ok .tri ∧ decodeKind 0b0001 = .ok .sqr ∧ decodeKind 0b0010 = .ok .sin ∧
    decodeKind 0b0011 = .ok .rsl ∧ decodeKind 0b0100 = .ok .wnk ∧ decodeKind 0b0101 = .ok .fm ∧
    decodeKind 0b0110 = .ok .rat ∧ decodeKind 0b0111 = .ok .tsn ∧ decodeKind 0b1000 = .ok .am ∧
    decodeKind 0b1001 = .ok .swm ∧ decodeKind 0b1010 = .ok .pen ∧ decodeKind 0b1011 = .ok .grv ∧
    decodeKind 0b1100 = .error (.noSuchKind 12) ∧ decodeKind 0b1111 = .error (.noSuchKind 15) := by decide
/-- V-E4, V-E9, V-E12: the words the assembler writes. -/
theorem test_encode :
    encode (.sethz 0 65536) = .command 0x30010000 ∧ encode (.setn 2 512) = .command 0x48000200 ∧
    encode (.loadk 2 11) = .command 0x5800000B := by decide
theorem test_decodeTableWord :
    decodeTableWord 32 0x5800000C = some (.loadk 2 12) ∧ decodeTableWord 8 0xB = some .grv ∧
    decodeTableWord 8 0xC = none ∧ decodeTableWord 32 0x80000000 = none := by decide

/-! ## One instruction -/

/-- V-C12 -/
theorem test_nop : exec .nop mixed = .next mixed := by rfl
/-- V-C11: draws 2, 0, 3, 1 at clock 5000. -/
theorem test_reset :
    after (fun t => t.tref == 5000 && (t.ch 0).tsSel == 2 && (t.ch 1).tsSel == 0 && (t.ch 2).tsSel == 3
      && (t.ch 3).tsSel == 1 && t.rand.taken == 4 && (t.ch 3).kind == 0)
      (exec .reset { mixed with now := 5000, rand := { answers := [2, 0, 3, 1], taken := 0 } }) = true := by
  decide +kernel
/-- V-S1: one short of the interval. -/
theorem test_poll_early :
    after (fun t => t.ticked == false && t.tref == 1000 && (t.ch 0).phase == 0)
      (exec .poll { base with tref := 1000, now := 1399 }) = true := by decide +kernel
/-- V-S4 from `TREF = 1400`: `d = 1250`, one pass, two ticks lost. -/
theorem test_poll_late :
    after (fun t => t.ticked && t.tref == 2600 && (t.ch 3).phase == 439804651)
      (exec .poll { base with tref := 1400, now := 2650 }) = true := by decide +kernel
/-- V-S4 with `SCHED_ADVANCE = now`: `TREF` takes the clock value. -/
theorem test_poll_now :
    after (fun t => t.ticked && t.tref == 2650 && (t.ch 3).phase == 439804651)
      (exec .poll { base with tref := 1400, now := 2650, params := { defaultParams with schedAdvance := .now } })
      = true := by decide +kernel
/-- V-C1 -/
theorem test_sethz :
    after (fun t => (t.ch 1).freq == 98304 && (t.ch 0).freq == 65536) (exec (.sethz 1 0x018000) base) = true := by
  decide +kernel
/-- V-C2 -/
theorem test_setn :
    after (fun t => (t.ch 2).freq == 1310720) (exec (.setn 2 1023) base) = true ∧
    after (fun t => (t.ch 3).freq == 5886) (exec (.setn 3 100) base) = true := by decide +kernel
/-- R123: `SETN` writes the entry of the table the machine has, whatever it is. -/
theorem test_setn_parameter :
    after (fun t => (t.ch 1).freq == 70000)
      (exec (.setn 1 2) { base with params := { defaultParams with freqMap := [3277, 5, 70000] } }) = true := by decide
/-- V-C4, V-C5 -/
theorem test_loadk :
    after (fun t => (t.ch 2).kind == 11) (exec (.loadk 2 11) base) = true ∧
    exec (.loadk 2 12) base = .next base ∧ exec (.loadk 2 255) base = .next base :=
  ⟨by decide +kernel, rfl, rfl⟩
/-- V-C6, V-C7 -/
theorem test_wadv :
    after (fun t => (t.ch 2).kind == 0) (exec (.wadv .plusOne) { base.setKind 2 11 with sel := 2 }) = true ∧
    after (fun t => (t.ch 2).kind == 11) (exec (.wadv .minusOne) { base with sel := 2 }) = true := by
  decide +kernel
/-- V-C9 -/
theorem test_selnx : after (fun t => t.sel == 0) (exec .selnx { base with sel := 3 }) = true := by
  decide +kernel
/-- V-B3: the peak. -/
theorem test_tri :
    out1 (exec .tri (on1 { c0 with phase := 549487378432 } 0 0 [])) =
      some ({ c0 with phase := 549927183083, out := 255 }, 0) := by decide +kernel
/-- V-B8: the falling edge. -/
theorem test_sqr :
    out1 (exec .sqr (on1 { c0 with phase := 549487378432 } 0 0 [])) =
      some ({ c0 with phase := 549927183083, out := 0 }, 0) := by decide +kernel
/-- V-B12 -/
theorem test_sin :
    out1 (exec .sin (on1 { c0 with freq := 1310720 } 0 0 [])) =
      some ({ c0 with freq := 1310720, phase := 8796093022, out := 134 }, 0) := by decide +kernel
/-- V-R3: a negative step rounds away from zero. -/
theorem test_rsl_down :
    out1 (exec .rsl (on1 c0 0 1000 [28])) =
      some ({ c0 with rsCur := 549584015196, rsTgt := 28, rsStep := -171798692, rsLast := 1000, out := 128 }, 1) := by
  decide +kernel
/-- V-R7: a downward overshoot is held at the target. -/
theorem test_rsl_held :
    out1 (exec .rsl (on1
      { c0 with rsCur := 120688581018, rsTgt := 28, rsStep := -858993460, rsLast := 1000 } 0 1500 [])) =
      some ({ c0 with rsCur := 120259084288, rsTgt := 28, rsStep := -858993460, rsLast := 1000, out := 28 }, 0) := by
  decide +kernel
/-- V-W6: the hold ends, a clamped glitch, a nudge of 8. -/
theorem test_wnk_hold :
    out1 (exec .wnk (on1 { c0 with wkCnt := 199 } 0 0 [50, 80, 10, 70, 180, 1, 8])) =
      some ({ c0 with
        phase := 35063425809, wkCnt := 0, wkDur := 10, wkMult := 6871947673, out := 16 }, 7) := by
  decide +kernel
/-- V-W4: gentle drift at 1 Hz. -/
theorem test_wnk_drift :
    out1 (exec .wnk (on1 { c0 with wkCnt := 199 } 0 0 [50, 10, 300, 20, 50])) =
      some ({ c0 with
        phase := 503157463, wkCnt := 0, wkDur := 300, wkMult := 4913647108, out := 0 }, 5) := by
  decide +kernel
/-- V-T5: a stutter replaces a long pause. -/
theorem test_rat_burst :
    out1 (exec .rat (on1 { c0 with rtCnt := 79, rtBcount := 2 } 0 0 [200, 2, 0, 30])) =
      some ({ c0 with
        phase := 1759218604, rtSt := .paused, rtCnt := 0, rtPdur := 30, rtBcount := 0, rtMaxb := 2, out := 0 }, 4) := by
  decide +kernel
/-- V-T7: the pause ends and the phase stands. -/
theorem test_rat_pause :
    out1 (exec .rat (on1
      { c0 with phase := 214748364800, rtSt := .paused, rtPcnt := 99, rtBcount := 1 } 0 0 [30, 8])) =
      some ({ c0 with
        phase := 214748364800, rtSt := .bursting, rtBdur := 30, rtPcnt := 0, rtBcount := 1, rtMult := 8,
        out := 100 }, 2) := by decide +kernel
/-- V-G2: retarget, then the pull on the same tick. -/
theorem test_grv_retarget :
    out1 (exec .grv (on1 c0 0 0 [2, 300])) =
      some ({ c0 with phase := 598134325, gvCur := 5841155522, gvTgt := 12884901888, out := 0 }, 2) := by
  decide +kernel
/-- V-G6: below the band at 20 Hz, clamped up. -/
theorem test_grv_clamp :
    out1 (exec .grv (on1 { c0 with freq := 1310720 } 0 0 [999])) =
      some ({ c0 with freq := 1310720, phase := 879609302, gvCur := 8589934592, out := 0 }, 1) := by
  decide +kernel
/-- V-F1 -/
theorem test_fm :
    out1 (exec .fm (on1 c0 255 0 [])) = some ({ c0 with phase := 9235897673, out := 4 }, 0) := by decide +kernel
/-- V-F11: the frequency is not rounded before the increment. -/
theorem test_fm_exact :
    out1 (exec .fm (on1 { c0 with freq := 3277 } 128 0 [])) =
      some ({ c0 with freq := 3277, phase := 56486057, out := 0 }, 0) := by decide +kernel
/-- V-TS5 -/
theorem test_tsn :
    out1 (exec .tsn (on1 { c0 with phase := 50 * 2 ^ 32, tsPhase := 79 * 2 ^ 32, tsSel := 3 } 0 0 [])) =
      some ({ c0 with phase := 215188169451, tsPhase := 340064158039, tsSel := 3, out := 41 }, 0) := by
  decide +kernel
/-- V-TS3: clamped at the top. -/
theorem test_tsn_clamp :
    out1 (exec .tsn (on1 { c0 with phase := 127 * 2 ^ 32, tsPhase := 192 * 2 ^ 32, tsSel := 1 } 0 0 [])) =
      some ({ c0 with phase := 545900651243, tsPhase := 825218661017, tsSel := 1, out := 255 }, 0) := by
  decide +kernel
/-- V-A3 -/
theorem test_am :
    out1 (exec .am (on1 { c0 with phase := 31 * 2 ^ 32 } 64 0 [])) =
      some ({ c0 with phase := 133583790827, out := 171 }, 0) := by decide +kernel
/-- V-SW5 -/
theorem test_swm :
    out1 (exec .swm (on1
      { c0 with
        freq := 131072, phase := 100 * 2 ^ 32, swBreath := 5000 * 2 ^ 32, swSp0 := 300 * 2 ^ 32
        swSp1 := 400 * 2 ^ 32, swSp2 := 500 * 2 ^ 32 } 0 0 [])) =
      some ({ c0 with
        freq := 131072, phase := 430376338902, swBreath := 21474946431162, swSp0 := 1295527063217
        swSp1 := 1727662620724, swSp2 := 2153640913115, out := 166 }, 0) := by decide +kernel
/-- V-P1 -/
theorem test_pen :
    out1 (exec .pen (on1 { c0 with phase := 100 * 2 ^ 32, pnPhase := 30 * 2 ^ 32 } 0 0 [])) =
      some ({ c0 with phase := 429936534251, pnPhase := 129266833298, out := 130 }, 0) := by decide +kernel

/-! ## One step -/

/-- A pass hands each channel its neighbour's snapshot: channel 2 (`FM`) is modulated by channel 1 (Random
Slope at 128, R107), which gives V-F3. -/
theorem test_step_pass :
    after (fun t => t.ticked && (t.ch 2).phase == 474299133 && (t.ch 0).phase == 439804651)
      (step { present mixed 0x20000000 400 with rand := { answers := [999], taken := 0 } }) = true := by
  decide +kernel
/-- V-C12: a reserved word changes no register. -/
theorem test_step_reserved : step (present mixed 0xFFFFFFFF 7) = .next { mixed with now := 7 } := by rfl
theorem test_step_idle : step State.reset = .next State.reset := by rfl
theorem test_step_back :
    step (present { base with now := 8 } 0 7) = .refused (.clockWentBack 8 7) := by rfl
theorem test_withFetchWord_command :
    after (fun t => t.sel == 1) (step (State.reset.withFetchWord 32 0x70000000)) = true := by decide
theorem test_withFetchWord_kind :
    after (fun t => (t.ch 0).phase == 439804651 && !t.hand.live)
      (step (State.reset.withFetchWord 8 0x1)) = true := by decide +kernel

/-! ## The statements' hypotheses can be met -/

/-- The invariant holds of a channel at its reset values but for any legal kind. -/
theorem inv_c0 (k : KindCode) (h : k.toNat ≤ 11) : ({ c0 with kind := k } : Channel).Inv := by
  constructor <;> first
    | exact h
    | simp [c0, Channel.reset]

/-- `mixed`, with `POLL` due by three intervals and a half. -/
def due : State := { mixed with tref := 1000, now := 2400, rand := { answers := [2, 300], taken := 0 } }

/-- `due`, with `SCHED_ADVANCE = now`. -/
def dueNow : State := { due with params := { defaultParams with schedAdvance := .now } }

theorem inv_due : due.Inv := by
  refine ⟨fun i => ?_, by decide, by decide, by decide⟩
  fin_cases i
  · exact inv_c0 0 (by decide)
  · exact inv_c0 3 (by decide)
  · exact inv_c0 5 (by decide)
  · exact inv_c0 11 (by decide)

theorem kinds_mixed : mixed.kindsLegal := by
  intro i
  fin_cases i <;> decide

theorem witness_KindCodeIsListPosition :
    [Instr.tri, .sqr, .sin, .rsl, .wnk, .fm, .rat, .tsn, .am, .swm, .pen, .grv][0]? = some .tri ∧
    [Instr.tri, .sqr, .sin, .rsl, .wnk, .fm, .rat, .tsn, .am, .swm, .pen, .grv][11]? = some .grv := by decide

theorem witness_CodesAboveElevenNameNoKind : 12 ≤ (12 : KindCode).toNat ∧ 12 ≤ (15 : KindCode).toNat := by decide

/-- A command at the same clock value as the one before it. -/
theorem witness_StepRunsTheDecodedCommand :
    let s := present { base with now := 400 } 0x20000000 400
    s.hand.live = false ∧ s.port = { word := 0x20000000, now := 400 } :: [] ∧ s.now.toNat ≤ (400 : Time).toNat ∧
      decodeCommand 0x20000000 = .ok .poll := by decide

theorem witness_StepRunsTheKindHandedOver :
    let s := on1 { c0 with kind := 11 } 0 0 []
    s.hand.live = true ∧ decodeKind (s.ch s.hand.chan).kind = .ok .grv := by decide

/-- The least and the greatest reserved word. -/
theorem witness_ReservedWordChangesNoRegister :
    let s := present base 0x80000000 0
    s.hand.live = false ∧ s.port = { word := 0x80000000, now := 0 } :: [] ∧ s.now.toNat ≤ (0 : Time).toNat ∧
      2 ^ 31 ≤ (0x80000000 : CmdWord).toNat ∧ 2 ^ 31 ≤ (0xFFFFFFFF : CmdWord).toNat := by decide

theorem witness_IdleStepChangesNothing : mixed.hand.live = false ∧ mixed.port = [] := ⟨rfl, rfl⟩

theorem witness_ClockGoingBackIsRefused :
    let s := present { base with now := 8 } 0 7
    s.hand.live = false ∧ s.port = { word := 0, now := 7 } :: [] ∧ (7 : Time).toNat < s.now.toNat := by decide

/-- A due `POLL` presented at the clock value of the command before it. -/
theorem witness_EveryCommandHasASuccessor :
    let s := present due 0x20000000 2400
    s.Inv ∧ s.clockOk := by
  refine ⟨⟨inv_due.channel, inv_due.tref_le, inv_due.rsLast_le, inv_due.hand_le⟩, fun c hc => ?_⟩
  simp only [present, List.head?_cons, Option.mem_some_iff] at hc
  subst hc
  decide

theorem witness_StepClearsTheHandover :
    ∃ t, step (on1 { c0 with kind := 9 } 0 0 []) = .next t := ⟨_, rfl⟩

/-- At 399, 400 and 1400 microseconds after `TREF`, and with `SCHED_ADVANCE = now`. -/
theorem witness_PollTicksExactlyWhenDue :
    (let s : State := { mixed with now := 399 };
      s.kindsLegal ∧ s.tref.toNat ≤ s.now.toNat ∧ s.now.toNat - s.tref.toNat < 400) ∧
    (let s : State := { mixed with now := 400 };
      s.kindsLegal ∧ s.tref.toNat ≤ s.now.toNat ∧ 400 ≤ s.now.toNat - s.tref.toNat) ∧
    (due.kindsLegal ∧ due.tref.toNat ≤ due.now.toNat ∧ 400 ≤ due.now.toNat - due.tref.toNat ∧
      due.params.schedAdvance = .grid) ∧
    dueNow.kindsLegal ∧ dueNow.tref.toNat ≤ dueNow.now.toNat ∧ 400 ≤ dueNow.now.toNat - dueNow.tref.toNat ∧
      dueNow.params.schedAdvance = .now :=
  ⟨⟨kinds_mixed, by decide, by decide⟩, ⟨kinds_mixed, by decide, by decide⟩,
    ⟨kinds_mixed, by decide, by decide, rfl⟩, kinds_mixed, by decide, by decide, rfl⟩

theorem witness_TickKeepsTrefOnTheGrid :
    due.params.schedAdvance = .grid ∧ due.tref.toNat ≤ due.now.toNat ∧
      400 ≤ due.now.toNat - due.tref.toNat ∧ ∃ t, exec .poll due = .next t := ⟨rfl, by decide, by decide, _, rfl⟩

theorem witness_PassRefusesUnknownKind :
    (let s : State := { base.setKind 2 12 with now := 400 };
      400 ≤ (s.now - s.tref).toNat ∧ ∃ i : ChIx, 12 ≤ (s.ch i).kind.toNat) ∧
    (let s : State := { base.setKind 0 15 with now := 400 };
      400 ≤ (s.now - s.tref).toNat ∧ ∃ i : ChIx, 12 ≤ (s.ch i).kind.toNat) ∧
    (let s : State := { base.setKind 0 15 with now := 399 }; (s.now - s.tref).toNat < 400) :=
  ⟨⟨by decide, 2, by decide⟩, ⟨by decide, 0, by decide⟩, by decide⟩

theorem witness_PassIsFourUpdatesInOrder :
    decodeKind (due.ch 0).kind = .ok .tri ∧ decodeKind (due.ch 1).kind = .ok .rsl ∧
      decodeKind (due.ch 2).kind = .ok .fm ∧ decodeKind (due.ch 3).kind = .ok .grv := ⟨rfl, rfl, rfl, rfl⟩

theorem witness_OnlyTheSelectedKindMoves : ∃ t, exec .poll due = .next t := ⟨_, rfl⟩

/-- A table other than the default one: a straight line, its last step the longest. -/
def line : List FreqCode :=
  (List.range 1024).map fun k => BitVec.ofNat 24 (3277 + 1278 * k + if k = 1023 then 49 else 0)

theorem line_at {k : Nat} (h : k < 1024) :
    (line.getD k 0).toNat = 3277 + 1278 * k + if k = 1023 then 49 else 0 := by
  simp only [line, List.getD_eq_getElem?_getD, List.getElem?_map, List.getElem?_range h, Option.map_some,
    Option.getD_some, BitVec.toNat_ofNat]
  split <;> omega

theorem witness_SetnStoresTheMappedCode :
    ({ base with params := { defaultParams with freqMap := line } } : State).params.Admissible where
  length_eq := by simp [line, cfg]
  increasing k h := by
    rw [line_at (by omega), line_at (by omega)]
    split <;> split <;> omega
  first := BitVec.eq_of_toNat_eq (by rw [line_at (by omega)]; decide)
  last := BitVec.eq_of_toNat_eq (by rw [line_at (by omega)]; decide)

/-- The greatest value applied and the least and greatest ignored. -/
theorem witness_LoadkAppliesOnlyKinds :
    (11 : Byte).toNat ≤ 11 ∧ 12 ≤ (12 : Byte).toNat ∧ 12 ≤ (255 : Byte).toNat := by decide

theorem witness_WadvMovesTheSelectedKind :
    (0 : ChIx).val = base.sel.toNat ∧ (3 : ChIx).val = ({ base with sel := 3 } : State).sel.toNat := by decide

/-- At 1 Hz one period is 1000 milliseconds: 999 is not due, 1000 is. -/
theorem witness_RslRetargetsThenRamps :
    ¬ 1000 * 65536 ≤ (((on1 c0 0 999 []).hand.tMs.toNat : Int) - (c0.rsLast.toNat : Int)) * (c0.freq.toNat : Int) ∧
      1000 * 65536 ≤ (((on1 c0 0 1000 []).hand.tMs.toNat : Int) - (c0.rsLast.toNat : Int)) * (c0.freq.toNat : Int) := by decide

theorem witness_RslStaysBetweenStartAndTarget :
    let s := on1 { c0 with kind := 3 } 0 1000 [228]
    (s.ch s.hand.chan).Inv ∧ ∃ t, exec .rsl s = .next t := ⟨inv_c0 3 (by decide), _, rfl⟩

theorem witness_GravityStaysInItsBand : ∃ t, exec .grv (on1 { c0 with freq := 1 } 0 0 [2, 10]) = .next t := ⟨_, rfl⟩

theorem witness_FmNeverStandsStill : ∃ t, exec .fm (on1 { c0 with freq := 0 } 0 0 []) = .next t := ⟨_, rfl⟩

theorem witness_TriSineNeverEmitsZero : ∃ t, exec .tsn (on1 c0 0 0 []) = .next t := ⟨_, rfl⟩

theorem witness_ZeroModulatorSilencesAm :
    (on1 c0 0 0 []).hand.modulator = 0 ∧ ∃ t, exec .am (on1 c0 0 0 []) = .next t := ⟨rfl, _, rfl⟩

theorem witness_PendulumIsTheRoundedMean : ∃ t, exec .pen (on1 c0 0 0 []) = .next t := ⟨_, rfl⟩

theorem witness_UpdatesTakeTheirDraws :
    updateOf .wnk = some updateWnk ∧ ∃ t, exec .wnk (on1 c0 0 0 [50]) = .next t := ⟨rfl, _, rfl⟩

/-- A range of one number, and an answer fixed in advance at either end of a range. -/
theorem witness_DrawLiesInItsRange :
    let r : Rand := { answers := [3], taken := 0 }
    (3 : Int) ≤ 3 ∧ r.answers = 3 :: [] ∧ (3 : Int) ≤ 3 ∧ (0 : Int) ≤ 3 := by decide

theorem witness_TriangleAndSquareTables :
    (127 : Byte).toNat < 128 ∧ 128 ≤ (128 : Byte).toNat ∧ memRead .tri 5 = memRead .tri 5 := by decide

theorem witness_SineTableIsAntisymmetric :
    64 ≤ 64 ∧ (1 : Byte).toNat % 128 ≠ 0 ∧ (255 : Byte).toNat % 128 ≠ 0 := by decide

theorem witness_FreqMapIsAdmissible : 0 < 1023 ∧ 1022 < 1023 ∧ 1023 ≤ 1023 := by decide

theorem witness_SourceSampleCollapsesDerivedKinds :
    ({ c0 with kind := 1 } : Channel).kind = 1 ∧ ({ c0 with kind := 2 } : Channel).kind = 2 ∧
      ({ c0 with kind := 3 } : Channel).kind = 3 ∧
      (({ c0 with kind := 4 } : Channel).kind ≠ 1 ∧ ({ c0 with kind := 4 } : Channel).kind ≠ 2 ∧
        ({ c0 with kind := 4 } : Channel).kind ≠ 3) := by decide

/-- A due `POLL`, and an update handed over at the clock's milliseconds. -/
theorem witness_EveryStepKeepsTheInvariant :
    (let s := present due 0x20000000 2400; s.Inv ∧ ∃ t, step s = .next t) ∧
    (let s : State := { due with hand := { live := true, chan := 1, modulator := 0, tMs := 2 } };
      s.Inv ∧ ∃ t, step s = .next t) :=
  ⟨⟨⟨inv_due.channel, inv_due.tref_le, inv_due.rsLast_le, inv_due.hand_le⟩, _, rfl⟩,
    ⟨inv_due.channel, inv_due.tref_le, inv_due.rsLast_le, by decide⟩, _, rfl⟩

theorem witness_AccumulatorsNeverDecrease :
    let s := present due 0x20000000 2400
    (∃ t, step s = .next t) ∧
      (∀ c ∈ s.port.head?, s.hand.live = false → decodeCommand c.word ≠ .ok .reset) := by
  refine ⟨⟨_, rfl⟩, fun c hc _ => ?_⟩
  simp only [present, List.head?_cons, Option.mem_some_iff] at hc
  subst hc
  decide

theorem witness_OutputsChangeOnlyInAPass :
    let s := present due 0x60000001 2400
    s.hand.live = false ∧ (∃ t, step s = .next t) ∧
      (∀ c ∈ s.port.head?, decodeCommand c.word ≠ .ok .reset ∧ decodeCommand c.word ≠ .ok .poll) := by
  refine ⟨rfl, ⟨_, rfl⟩, fun c hc => ?_⟩
  simp only [present, List.head?_cons, Option.mem_some_iff] at hc
  subst hc
  decide

/-- Two states that differ in channel 3, seen from channel 2, whose source is channel 1 and whose kind takes no
draw, and from channel 1, whose kind draws: channel 0 before it takes none. -/
theorem witness_NoChannelReadsBeyondItsNeighbour :
    let a := due
    let b := due.setCh 3 { c0 with kind := 7, phase := 5 }
    a.ch 2 = b.ch 2 ∧ a.now = b.now ∧ a.tref = b.tref ∧ (a.ch (src 2)).kind = (b.ch (src 2)).kind ∧
      (a.ch (src 2)).phase = (b.ch (src 2)).phase ∧ (a.ch (src 2)).rsCur = (b.ch (src 2)).rsCur ∧
      (a.ch 2).kind.toNat ∈ [0, 1, 2, 5, 7, 8, 9, 10] ∧
      a.ch 1 = b.ch 1 ∧ a.ch (src 1) = b.ch (src 1) ∧ (a.ch 1).kind = 3 ∧
      Vocab.randAtTurn a 1 = Vocab.randAtTurn b 1 ∧
      (∃ a', exec .poll a = .next a') ∧ ∃ b', exec .poll b = .next b' :=
  ⟨rfl, rfl, rfl, rfl, rfl, rfl, by decide, rfl, rfl, rfl, rfl, ⟨_, rfl⟩, _, rfl⟩

end Sys2Proof.Tests
end

section
/-!
PROOFS. The start-up operation that `RESET` runs (R45, R129, R271): which draw each channel's `TS_SEL` holds,
and the reset values of every other register.
-/

namespace Sys2Proof.Machine

/-- `draw(0, 3)` fits the two bits of `TS_SEL`, so the register holds the number drawn (R32, R150). -/
theorem drawRatio_toNat (r : Rand) : ((drawRatio r).toNat : Int) = (draw r 0 3).1 := by
  have hge : 0 ≤ (draw r 0 3).1 := draw_ge r (by decide)
  have hle : (draw r 0 3).1 ≤ 3 := draw_le r (by decide)
  simp only [drawRatio, BitVec.toNat_ofInt]
  omega

@[simp] theorem Channel.reset_tsSel (ratio : BitVec 2) : (Channel.reset ratio).tsSel = ratio := rfl

@[simp] theorem State.restart_ch_zero (s : State) :
    s.restart.ch 0 = Channel.reset (drawRatio s.rand) := rfl
@[simp] theorem State.restart_ch_one (s : State) :
    s.restart.ch 1 = Channel.reset (drawRatio s.rand.advance) := rfl
@[simp] theorem State.restart_ch_two (s : State) :
    s.restart.ch 2 = Channel.reset (drawRatio s.rand.advance.advance) := rfl
@[simp] theorem State.restart_ch_three (s : State) :
    s.restart.ch 3 = Channel.reset (drawRatio s.rand.advance.advance.advance) := rfl

/-- Start-up leaves no register of a channel open but the ratio it drew (R45). -/
theorem State.restart_ch_eq_reset (s : State) (i : ChIx) :
    s.restart.ch i = Channel.reset (s.restart.ch i).tsSel := by
  obtain ⟨ratio, h⟩ := s.restart_ch i
  rw [h, Channel.reset_tsSel]

/-- `RESET` is the start-up operation (R129). -/
theorem exec_reset (s : State) : exec .reset s = .next s.restart := rfl

/-- Settles O14: `RESET` answers the state after start-up, whose ratios are the four draws in channel order. -/
theorem resetRestoresEveryRegister : Obligations.ResetRestoresEveryRegister := by
  intro s
  refine ⟨s.restart, exec_reset s, ?draws, s.restart_ch_eq_reset, s.restart_sel, s.restart_tref,
    s.restart_ticked, s.restart_now, s.restart_port, s.restart_hand, s.restart_params⟩
  case draws => simp [drawRatio_toNat]

end Sys2Proof.Machine
end

section
/-!
PROOFS. The waveform tables, the block's only memory (R60 to R64): a table read gives the entry at the index,
and the entries themselves.
-/

namespace Sys2Proof.Machine

/-! ## The entries -/

theorem tableEntry_tri_of_lt {a : Nat} (h : a < 128) : tableEntry .tri a = 2 * a := if_pos h

theorem tableEntry_tri_of_ge {a : Nat} (h : 128 ≤ a) : tableEntry .tri a = 511 - 2 * a :=
  if_neg (Nat.not_lt.mpr h)

theorem tableEntry_sqr_of_lt {a : Nat} (h : a < 128) : tableEntry .sqr a = 255 := if_pos h

theorem tableEntry_sqr_of_ge {a : Nat} (h : 128 ≤ a) : tableEntry .sqr a = 0 :=
  if_neg (Nat.not_lt.mpr h)

/-- The triangle takes no value twice: it rises through the even numbers and falls through the odd ones, so an
entry's parity tells its half (R62). -/
theorem tableEntry_tri_inj {a b : Nat} (ha : a < 256) (hb : b < 256)
    (h : tableEntry .tri a = tableEntry .tri b) : a = b := by
  rcases lt_or_ge a 128 with ha' | ha'
  · rw [tableEntry_tri_of_lt ha'] at h
    rcases lt_or_ge b 128 with hb' | hb'
    · rw [tableEntry_tri_of_lt hb'] at h; omega
    · rw [tableEntry_tri_of_ge hb'] at h; omega
  · rw [tableEntry_tri_of_ge ha'] at h
    rcases lt_or_ge b 128 with hb' | hb'
    · rw [tableEntry_tri_of_lt hb'] at h; omega
    · rw [tableEntry_tri_of_ge hb'] at h; omega

/-- The second quarter of the sine is the first one's mirror image (R64). -/
theorem tableEntry_sin_mirror : ∀ a ≤ 64, tableEntry .sin (64 + a) = tableEntry .sin (64 - a) := by
  decide

/-- An inner entry of the sine's first half and the one half a table on sum to the largest sample (R64). -/
theorem tableEntry_sin_add_half : ∀ a < 128, a ≠ 0 →
    tableEntry .sin a + tableEntry .sin (a + 128) = 255 := by
  decide

/-- Half a table apart, modulo its size, the sine's entries sum to the largest sample, but at the two zeros (R64). -/
theorem tableEntry_sin_add_opposite {a : Nat} (h : a < 256) (h0 : a % 128 ≠ 0) :
    tableEntry .sin a + tableEntry .sin ((a + 128) % 256) = 255 := by
  rcases lt_or_ge a 128 with ha | ha
  · rw [Nat.mod_eq_of_lt (by omega)]
    exact tableEntry_sin_add_half a ha (by omega)
  · have hsum := tableEntry_sin_add_half (a - 128) (by omega) (by omega)
    have hopp : (a + 128) % 256 = a - 128 := by omega
    rwa [Nat.sub_add_cancel ha, add_comm, ← hopp] at hsum

/-- An entry of the sine is at most the sum of the antisymmetry; the two zeros are 128. -/
theorem tableEntry_sin_lt {a : Nat} (h : a < 256) : tableEntry .sin a < 256 := by
  by_cases h0 : a % 128 = 0
  · obtain rfl | rfl : a = 0 ∨ a = 128 := by omega
    · decide
    · decide
  · have hsum := tableEntry_sin_add_opposite h h0
    omega

/-- Every entry fits a byte (R60). -/
theorem tableEntry_lt (t : Table) {a : Nat} (h : a < 256) : tableEntry t a < 256 := by
  cases t with
  | tri =>
    rcases lt_or_ge a 128 with ha | ha
    · rw [tableEntry_tri_of_lt ha]; omega
    · rw [tableEntry_tri_of_ge ha]; omega
  | sqr =>
    rcases lt_or_ge a 128 with ha | ha
    · rw [tableEntry_sqr_of_lt ha]; omega
    · rw [tableEntry_sqr_of_ge ha]; omega
  | sin => exact tableEntry_sin_lt h

/-! ## Reading a table -/

/-- A table read loses nothing of the entry (R60). -/
@[simp] theorem memRead_toNat (t : Table) (a : Byte) : (memRead t a).toNat = tableEntry t a.toNat :=
  Nat.mod_eq_of_lt (tableEntry_lt t a.isLt)

/-- Settles O49: each half of the two tables by its own rule, and an index is found again from its triangle entry. -/
theorem triangleAndSquareTables : Obligations.TriangleAndSquareTables := by
  refine ⟨fun a ha => ?lower, fun a ha => ?upper, fun a b hab => ?inj⟩
  case lower => simp [tableEntry_tri_of_lt, tableEntry_sqr_of_lt, ha]
  case upper => simp [tableEntry_tri_of_ge, tableEntry_sqr_of_ge, ha]
  case inj =>
    have h := congrArg BitVec.toNat hab
    rw [memRead_toNat, memRead_toNat] at h
    exact BitVec.eq_of_toNat_eq (tableEntry_tri_inj a.isLt b.isLt h)

/-- Adding 128 to an index goes half a table on, modulo its size (R61, R64). -/
theorem memRead_sin_add_half {a : Byte} (h : a.toNat % 128 ≠ 0) :
    (memRead .sin a).toNat + (memRead .sin (a + 128)).toNat = 255 := by
  rw [memRead_toNat, memRead_toNat, BitVec.toNat_add]
  exact tableEntry_sin_add_opposite a.isLt h

/-- The sine is symmetric about its peak at a quarter of the table (R64). -/
theorem memRead_sin_mirror {a : Nat} (h : a ≤ 64) :
    memRead .sin (BitVec.ofNat 8 (64 + a)) = memRead .sin (BitVec.ofNat 8 (64 - a)) := by
  apply BitVec.eq_of_toNat_eq
  rw [memRead_toNat, memRead_toNat, BitVec.toNat_ofNat, BitVec.toNat_ofNat,
    Nat.mod_eq_of_lt (by omega), Nat.mod_eq_of_lt (by omega), tableEntry_sin_mirror a h]

/-- Settles O50: the listed entries are read off the table; its two symmetries give the others. -/
theorem sineTableIsAntisymmetric : Obligations.SineTableIsAntisymmetric :=
  ⟨rfl, fun _ => memRead_sin_mirror, rfl, rfl, rfl, rfl, fun _ => memRead_sin_add_half⟩

end Sys2Proof.Machine
end

section
/-!
PROOFS. The kind codes (30_encoding.md R86): decoder and encoder each against the source's list of kinds, read
as a table from positions to kinds.
-/

namespace Sys2Proof

/-- The source's list of the twelve kinds, in its order (R86). -/
def kindList : List Instr := [.tri, .sqr, .sin, .rsl, .wnk, .fm, .rat, .tsn, .am, .swm, .pen, .grv]

theorem lt_nKinds_of_kindList {n : Nat} {i : Instr} (h : kindList[n]? = some i) : n < cfg.nKinds :=
  (List.getElem?_eq_some_iff.mp h).1

/-- Decoding the codes in ascending order lists the kinds in the source's order. -/
theorem map_decodeKind_range :
    (List.range cfg.nKinds).map (fun n => decodeKind (BitVec.ofNat 4 n)) = kindList.map .ok := rfl

/-- Encoding the kinds in the source's order counts the codes up from 0. -/
theorem map_encode_kindList :
    kindList.map encode = (List.range cfg.nKinds).map (fun n => .kind (BitVec.ofNat 4 n)) := rfl

theorem decodeKind_of_kindList {n : Nat} {i : Instr} (h : kindList[n]? = some i) :
    decodeKind (BitVec.ofNat 4 n) = .ok i := by
  have hn := congrArg (·[n]?) map_decodeKind_range
  simpa only [List.getElem?_map, List.getElem?_range (lt_nKinds_of_kindList h), h, Option.map_some,
    Option.some.injEq] using hn

theorem encode_of_kindList {n : Nat} {i : Instr} (h : kindList[n]? = some i) :
    encode i = .kind (BitVec.ofNat 4 n) := by
  have hn := congrArg (·[n]?) map_encode_kindList
  simpa only [List.getElem?_map, List.getElem?_range (lt_nKinds_of_kindList h), h, Option.map_some,
    Option.some.injEq] using hn

/-- Settles O3: both directions of the code are read off the list at the position `n`. -/
theorem kindCodeIsListPosition : Obligations.KindCodeIsListPosition :=
  fun _ _ h => ⟨decodeKind_of_kindList h, encode_of_kindList h⟩

end Sys2Proof
end

section
/-!
PROOFS. The scheduler (R100 to R103): `NOP`, when a `POLL` ticks, and where a tick leaves `TREF`.
-/

namespace Sys2Proof.Machine

/-- Settles O13: `NOP` answers the state it was given (R100). -/
theorem nopChangesNothing : Obligations.NopChangesNothing := fun _ => rfl

/-- A `POLL` that ticks leaves `TREF` where the scheduler moves it: the pass does not write it (R101, R106). -/
theorem execPoll_due_tref {s t : State} (hd : s.tickDue = true) (h : execPoll s = .next t) :
    t.tref = s.nextTref := by
  rcases execPoll_cases h with ⟨_, _, rfl⟩ | ⟨hn, _⟩
  · exact State.pass_tref _
  · exact absurd (hd.symm.trans hn) Bool.noConfusion

/-- Settles O15: by whether the `POLL` is due; the test on the elapsed time is the test on the difference, since
`TREF` is not above the clock. -/
theorem pollTicksExactlyWhenDue : Obligations.PollTicksExactlyWhenDue := by
  intro s hk htref d
  have hd : s.elapsed = d := s.elapsed_eq htref
  cases hdue : s.tickDue with
  | false =>
    have hlt : d < 400 := hd ▸ s.tickDue_eq_false_iff.mp hdue
    refine ⟨{ s with ticked := false }, execPoll_not_due hdue, ?_, fun _ => rfl, fun hge => by omega⟩
    simp [hlt]
  | true =>
    have hge : 400 ≤ d := hd ▸ s.tickDue_iff.mp hdue
    have hexec := execPoll_due hdue hk
    have htick := execPoll_due_tref hdue hexec
    refine ⟨_, hexec, ?_, fun hlt => by omega, fun _ => ⟨fun hs => ?grid, fun hs => ?now, ?pass⟩⟩
    · simp [hge]
    case grid => rw [htick, s.nextTref_toNat hs htref]
    case now => rw [htick, State.nextTref_now hs]
    case pass => rw [htick]

/-- Settles O16: the tick adds the whole intervals of the elapsed time, so what is left is their remainder. -/
theorem tickKeepsTrefOnTheGrid : Obligations.TickKeepsTrefOnTheGrid := by
  intro s t hs htref hge h k
  have hdue : s.tickDue = true := s.tickDue_iff.mpr (s.elapsed_eq htref ▸ hge)
  have hmove : t.tref.toNat = s.tref.toNat + k * 400 := by
    rw [execPoll_due_tref hdue h, s.nextTref_toNat hs htref]
  obtain ⟨_, _, hnow, _⟩ := exec_command_frame rfl h
  refine ⟨?_, hmove, hnow, ?_, ?_⟩
  · omega
  · rw [hnow, hmove]
    omega
  · rw [hnow, hmove]
    omega

end Sys2Proof.Machine
end

section
/-!
PROOFS. What a pass writes in a channel (R112): each stage of an update moves only the registers of its kind, and
so does the update they make up.
-/

namespace Sys2Proof.Vocab

open Sys2Proof.Machine

theorem MovesOnly.refl (k : Nat) (c : Channel) : MovesOnly k c c := by
  unfold MovesOnly
  split <;> rfl

/-- Two stages of one kind's update move no more than one: the second keeps what the first kept. -/
theorem MovesOnly.trans {k : Nat} {c c' c'' : Channel} (h : MovesOnly k c c') (h' : MovesOnly k c' c'') :
    MovesOnly k c c'' := by
  unfold MovesOnly at *
  split at h' <;>
    · simp only at h ⊢
      rw [h] at h'
      exact h'

end Sys2Proof.Vocab

namespace Sys2Proof.Machine

open Sys2Proof.Vocab

/-! ## Random Slope -/

theorem retarget_movesOnly (c : Channel) (t : Time) (r : Rand) : MovesOnly 3 c (retarget c t r).1 := by
  rcases retarget_cases c t r with ⟨_, h⟩ | ⟨_, _, _, h⟩
  · rw [h]
    exact .refl 3 c
  · rw [h]
    rfl

theorem updateRsl_movesOnly (c : Channel) (m : Byte) (t : Time) (r : Rand) :
    MovesOnly 3 c (updateRsl c m t r).1 :=
  (retarget_movesOnly c t r).trans (c'' := slopeAdvance (retarget c t r).1) rfl

/-! ## Wonky Triangle -/

theorem wonkyJitter_movesOnly (c : Channel) (r : Rand) : MovesOnly 4 c (wonkyJitter c r).1 := by
  rcases phaseKick_cases cfg.wkJitPct cfg.wkJitMax (by simp) c r with h | ⟨_, _, _, h⟩
  · rw [wonkyJitter, h]
    exact .refl 4 c
  · rw [wonkyJitter, h]
    rfl

theorem wonkyHold_movesOnly (c : Channel) (r : Rand) : MovesOnly 4 c (wonkyHold c r).1 := by
  rcases wonkyHold_cases c r with ⟨_, h⟩ | ⟨_, _, _, _, _, h⟩
  · rw [h]
    rfl
  · rw [h]
    rfl

theorem wonkyNudge_movesOnly (c : Channel) (r : Rand) : MovesOnly 4 c (wonkyNudge c r).1 := by
  rcases wonkyNudge_cases c r with h | ⟨_, _, _, h⟩
  · rw [h]
    exact .refl 4 c
  · rw [h]
    rfl

theorem wonkyAdvance_movesOnly (c : Channel) : MovesOnly 4 c (wonkyAdvance c) := rfl

theorem updateWnk_movesOnly (c : Channel) (m : Byte) (t : Time) (r : Rand) :
    MovesOnly 4 c (updateWnk c m t r).1 :=
  (wonkyJitter_movesOnly c r).trans <| (wonkyHold_movesOnly _ _).trans <|
    (wonkyNudge_movesOnly _ _).trans (wonkyAdvance_movesOnly _)

/-! ## Ratchet Triangle -/

theorem ratchetBurst_movesOnly (c : Channel) (r : Rand) : MovesOnly 6 c (ratchetBurst c r).1 := by
  rcases ratchetBurst_cases c r with ⟨_, h⟩ | ⟨_, _, _, _, _, _, _, h⟩
  · rw [h]
    rfl
  · rw [h]
    rfl

theorem ratchetPause_movesOnly (c : Channel) (r : Rand) : MovesOnly 6 c (ratchetPause c r).1 := by
  rcases ratchetPause_cases c r with ⟨_, h⟩ | ⟨_, _, _, _, _, _, _, h⟩
  · rw [h]
    rfl
  · rw [h]
    rfl

theorem ratchetArm_movesOnly (c : Channel) (r : Rand) : MovesOnly 6 c (ratchetArm c r).1 := by
  unfold ratchetArm
  split
  · exact ratchetBurst_movesOnly c r
  · exact ratchetPause_movesOnly c r

theorem updateRat_movesOnly (c : Channel) (m : Byte) (t : Time) (r : Rand) :
    MovesOnly 6 c (updateRat c m t r).1 :=
  (ratchetArm_movesOnly c r).trans (c'' := (updateRat c m t r).1) rfl

/-! ## Gravity -/

theorem gravityRetarget_movesOnly (c : Channel) (r : Rand) : MovesOnly 11 c (gravityRetarget c r).1 := by
  rcases gravityRetarget_cases c r with h | ⟨_, _, _, h⟩
  · rw [h]
    exact .refl 11 c
  · rw [h]
    rfl

theorem gravityAdvance_movesOnly (c : Channel) : MovesOnly 11 c (gravityAdvance c) := rfl

theorem updateGrv_movesOnly (c : Channel) (m : Byte) (t : Time) (r : Rand) :
    MovesOnly 11 c (updateGrv c m t r).1 :=
  (gravityRetarget_movesOnly c r).trans (gravityAdvance_movesOnly _)

/-! ## Every kind -/

/-- The update a kind code names moves only `PHASE`, `OUT` and that kind's file (R110, R112). The kinds
not treated above write their registers in one go. -/
theorem kindUpdate_movesOnly {k : KindCode} {u : Update} (h : kindUpdate k = some u)
    (c : Channel) (m : Byte) (t : Time) (r : Rand) : MovesOnly k.toNat c (u c m t r).1 := by
  unfold kindUpdate decodeKind at h
  generalize k.toNat = n at h ⊢
  split at h
  · rename_i i hi
    split at hi <;> cases hi <;> cases h
    -- the arms of `decodeKind` at the codes 3, 4, 6 and 11, whose updates run in stages
    case h_4 => exact updateRsl_movesOnly c m t r
    case h_5 => exact updateWnk_movesOnly c m t r
    case h_7 => exact updateRat_movesOnly c m t r
    case h_12 => exact updateGrv_movesOnly c m t r
    all_goals rfl
  · cases h

theorem State.pass_movesOnly {s : State} (hk : s.kindsLegal) (i : ChIx) :
    MovesOnly (s.ch i).kind.toNat (s.ch i) (s.pass.ch i) := by
  obtain ⟨_, u, _, _, hu⟩ := decodeKind_legal (hk i)
  rw [State.pass_ch s i hu]
  exact kindUpdate_movesOnly hu _ _ _ _

theorem execPoll_movesOnly {s t : State} (h : execPoll s = .next t) (i : ChIx) :
    MovesOnly (s.ch i).kind.toNat (s.ch i) (t.ch i) := by
  rcases execPoll_cases h with ⟨_, hk, rfl⟩ | ⟨_, rfl⟩
  · exact State.pass_movesOnly (s := { s with tref := s.nextTref }) hk i
  · exact .refl _ _

theorem execPoll_sel {s t : State} (h : execPoll s = .next t) : t.sel = s.sel := by
  rcases execPoll_cases h with ⟨_, _, rfl⟩ | ⟨_, rfl⟩
  · exact State.pass_sel _
  · rfl

/-- Settles O19: a pass runs each channel's own update, which moves only its kind's registers; a `POLL` that is
not due moves none. -/
theorem onlyTheSelectedKindMoves : Obligations.OnlyTheSelectedKindMoves := by
  intro s t h
  obtain ⟨hhand, hport, hnow, hparams⟩ := exec_command_frame rfl h
  exact ⟨execPoll_movesOnly h, execPoll_sel h, hnow, hport, hhand, hparams⟩

end Sys2Proof.Machine
end

section
/-!
PROOFS. The control commands (R122 to R126): the range of a `FREQMAP` entry, the kind code a command stores, the
channel `SEL` names, and what each command writes.
-/

namespace Sys2Proof

/-- Strict growth from each entry of an admissible `FREQMAP` to the next orders all of them (R241 (a)). -/
theorem Params.Admissible.entry_mono {p : Params} (hp : p.Admissible) {i j : Nat} (hij : i ≤ j) (hj : j ≤ 1023) :
    (p.freqMap.getD i 0).toNat ≤ (p.freqMap.getD j 0).toNat := by
  induction j, hij using Nat.le_induction with
  | base => exact le_rfl
  | succ n _ ih => exact (ih (by omega)).trans (hp.increasing n (by omega)).le

/-- An entry of an admissible `FREQMAP` lies between the first and the last (R241 (c)). -/
theorem Params.Admissible.entry_range {p : Params} (hp : p.Admissible) {k : Nat} (hk : k ≤ 1023) :
    3277 ≤ (p.freqMap.getD k 0).toNat ∧ (p.freqMap.getD k 0).toNat ≤ 1310720 := by
  have hlo := hp.entry_mono (Nat.zero_le k) hk
  have hhi := hp.entry_mono hk le_rfl
  rw [hp.first] at hlo
  rw [hp.last] at hhi
  exact ⟨hlo, hhi⟩

end Sys2Proof

namespace Sys2Proof.Machine

open Sys2Proof.Vocab

/-! ## The commands and the writes they make -/

theorem exec_setn (ch : ChIx) (k : MapCode) (s : State) :
    exec (.setn ch k) s = .next (s.setFreq ch (s.freqMap k)) := rfl

theorem exec_loadk_of_le (ch : ChIx) {v : Byte} (s : State) (hv : v.toNat ≤ 11) :
    exec (.loadk ch v) s = .next (s.setKind ch (BitVec.ofNat 4 v.toNat)) :=
  congrArg Host.Outcome.next (if_pos (Nat.lt_succ_of_le hv))

theorem exec_loadk_of_ge (ch : ChIx) {v : Byte} (s : State) (hv : 12 ≤ v.toNat) :
    exec (.loadk ch v) s = .next s :=
  congrArg Host.Outcome.next (if_neg (Nat.not_lt.mpr hv))

theorem exec_wadv (d : Direction) (s : State) :
    exec (.wadv d) s = .next (s.setKind s.selected (kindAfter d (s.ch s.selected).kind)) := rfl

theorem exec_selnx (s : State) :
    exec .selnx s = .next { s with sel := BitVec.ofNat 2 ((s.sel.toNat + 1) % 4) } := rfl

theorem writesTo_setFreq {i : Instr} {s : State} {ch : ChIx} {f : FreqCode}
    (h : exec i s = .next (s.setFreq ch f)) : WritesTo i s ch { s.ch ch with freq := f } :=
  ⟨_, h, s.setFreq_ch_same ch f, s.setFreq_frame ch f⟩

theorem writesTo_setKind {i : Instr} {s : State} {ch : ChIx} {k : KindCode}
    (h : exec i s = .next (s.setKind ch k)) : WritesTo i s ch { s.ch ch with kind := k } :=
  ⟨_, h, s.setKind_ch_same ch k, s.setKind_frame ch k⟩

/-! ## The codes and the index they compute -/

/-- A number below 12 fits the four bits of `KIND` (R21, R86). -/
theorem kindCode_toNat {n : Nat} (h : n < 12) : (BitVec.ofNat 4 n).toNat = n :=
  Nat.mod_eq_of_lt (by omega)

theorem kindAfter_plusOne_toNat (k : KindCode) : (kindAfter .plusOne k).toNat = (k.toNat + 1) % 12 :=
  kindCode_toNat (Nat.mod_lt _ (by decide))

theorem kindAfter_minusOne_toNat (k : KindCode) : (kindAfter .minusOne k).toNat = (k.toNat + 11) % 12 :=
  kindCode_toNat (Nat.mod_lt _ (by decide))

/-- The two bits of `SEL` name a channel each, so none is reduced (R25). -/
theorem State.selected_eq {s : State} {ch : ChIx} (h : ch.val = s.sel.toNat) : s.selected = ch :=
  Fin.ext ((Nat.mod_eq_of_lt s.sel.isLt).trans h.symm)

/-! ## The obligations -/

/-- Settles O21: `SETN` is a write of `FREQ`, and every code `k` of ten bits indexes an entry of the table. -/
theorem setnStoresTheMappedCode : Obligations.SetnStoresTheMappedCode :=
  fun s ch k => ⟨writesTo_setFreq (exec_setn ch k s), fun hp => hp.entry_range (Nat.le_of_lt_succ k.isLt)⟩

/-- Settles O22: the two sides of `LOADK`'s test. -/
theorem loadkAppliesOnlyKinds : Obligations.LoadkAppliesOnlyKinds :=
  fun s ch _ =>
    ⟨fun hv => ⟨_, kindCode_toNat (Nat.lt_succ_of_le hv), writesTo_setKind (exec_loadk_of_le ch s hv)⟩,
      exec_loadk_of_ge ch s⟩

/-- Settles O23: `WADV` is a write of `KIND` on the channel `SEL` names, with the code of each direction. -/
theorem wadvMovesTheSelectedKind : Obligations.WadvMovesTheSelectedKind := by
  intro s ch hch
  obtain rfl := State.selected_eq hch
  exact ⟨⟨_, kindAfter_plusOne_toNat _, writesTo_setKind (exec_wadv .plusOne s)⟩,
    ⟨_, kindAfter_minusOne_toNat _, writesTo_setKind (exec_wadv .minusOne s)⟩⟩

/-- Settles O24: the sum modulo 4 fits the two bits of `SEL`. -/
theorem selnxSelectsTheNextChannel : Obligations.SelnxSelectsTheNextChannel := by
  intro s
  refine ⟨_, exec_selnx s, ?_, rfl⟩
  exact Nat.mod_eq_of_lt (Nat.mod_lt _ (by decide))

end Sys2Proof.Machine
end

section
/-!
PROOFS. The numeric primitives, the ring and the source sample (R141 to R155): each primitive of the model is
the function the spec writes down.
-/

namespace Sys2Proof.Machine

open Sys2Proof.Vocab

/-! ## The grid -/

/-- Settles O44: in grid steps, `Q` is the floor and `Qc` the ceiling, and a grid value is a whole number. -/
theorem quantisersRoundToTheGrid : Obligations.QuantisersRoundToTheGrid := by
  intro x n
  have hscale : (0 : ℚ) < 2 ^ 32 := by norm_num
  rw [← fixVal_eq]
  refine ⟨?below, ?above, Q_fixVal n, Qc_fixVal n, ?shift⟩
  case below => rw [le_Q_iff, fixVal_eq, div_le_iff₀ hscale]
  case above => rw [Qc_le_iff, fixVal_eq, le_div_iff₀ hscale]
  case shift => rw [add_comm x, Q_fixVal_add, add_comm]

/-! ## Samples -/

/-- `clamp` on whole numbers as the order's own bounds (R143). -/
theorem clampInt_eq_max_min {x lo hi : Int} (h : lo ≤ hi) : clampInt x lo hi = max lo (min x hi) := by
  unfold clampInt
  split_ifs <;> omega

theorem q8_eq_sample (x : ℚ) : q8 x = sample x := by
  rw [q8, sample, clampInt_eq_max_min (by decide)]

/-- The sample nearest to `x` is its own value, since every byte lies inside the clamp (R145). -/
theorem q8_eq_of_floor {x : ℚ} {s : Byte} (h : ⌊x + 1 / 2⌋ = s.toNat) : q8 x = s := by
  have hq := q8_toNat x
  rw [h, clampInt_eq_max_min (by decide)] at hq
  exact BitVec.eq_of_toNat_eq (by have := s.isLt; omega)

/-- A whole sample is kept: the half that rounding adds is floored away (R145). -/
@[simp] theorem q8_natCast_toNat (s : Byte) : q8 (s.toNat : ℚ) = s := by
  apply q8_eq_of_floor
  rw [Int.floor_natCast_add]
  norm_num

/-- Settles O45: the clamp of `q8` is `max` and `min`. -/
theorem samplesRoundAndSaturate : Obligations.SamplesRoundAndSaturate :=
  ⟨fun x => (q8_toNat x).trans (clampInt_eq_max_min (by decide)), q8_natCast_toNat, fun _ => rfl⟩

/-- `unbip` undoes `bip` before any rounding, and the sample is whole (R147). -/
@[simp] theorem unbip_bip (s : Byte) : unbip (bip s) = s := by
  have hinv : (bip s + 1) * (255 / 2) = s.toNat := by
    rw [bip]
    ring
  rw [unbip, hinv, q8_natCast_toNat]

/-- Settles O46: the two ends are `bip` of the least and the largest sample; between them 0 lands on 127.5,
which is rounded upward. -/
theorem unbipInvertsBip : Obligations.UnbipInvertsBip := by
  have hlow : bip 0 = -1 := by norm_num [bip]
  have hhigh : bip 255 = 1 := by norm_num [bip, show (255 : Byte).toNat = 255 from rfl]
  refine ⟨fun y => q8_eq_sample _, ?low, ?high, ?middle, unbip_bip⟩
  case low => rw [← hlow, unbip_bip]
  case high => rw [← hhigh, unbip_bip]
  case middle =>
    apply q8_eq_of_floor
    calc ⌊((0 : ℚ) + 1) * (255 / 2) + 1 / 2⌋ = 128 := by norm_num
      _ = ((128 : Byte).toNat : Int) := rfl

/-! ## Phases -/

/-- The whole part of a phase, modulo the table's size (R148). -/
theorem idx_toNat (p : Nat) : (idx p).toNat = p / 2 ^ 32 % 256 :=
  Nat.mod_mod _ _

/-- Settles O47: the floor of a phase register's value is its raw integer divided by the grid's scale. -/
theorem indexIsFloorModulo256 : Obligations.IndexIsFloorModulo256 := by
  intro p
  have hfloor : ⌊(p : ℚ) / 2 ^ 32⌋ = ((p / 2 ^ 32 : Nat) : Int) := by
    exact_mod_cast Rat.floor_natCast_div_natCast p (2 ^ 32)
  rw [idx_toNat, hfloor]
  rfl

/-- A table lookup gives the entry at the phase (R61, R148). -/
theorem lookup_toNat (t : Table) (p : Nat) : (lookup t p).toNat = entry t p := by
  rw [lookup, memRead_toNat, idx_toNat, entry]

/-! ## The ring and the source sample -/

theorem src_val (i : ChIx) : (src i).val = (i.val + 3) % 4 :=
  Nat.mod_mod _ _

/-- Settles O52: going three channels round a ring of four comes back to no channel. -/
theorem ringReadsAnotherChannel : Obligations.RingReadsAnotherChannel := by
  intro i
  refine ⟨src_val i, fun hself => ?_⟩
  have hval := src_val i
  rw [hself] at hval
  omega

/-! `SrcSample` by kind (R155). -/

theorem srcSample_of_sqr {c : Channel} (h : c.kind = 1) : srcSample c = lookup .sqr c.phase := by
  rw [srcSample, if_pos h]

theorem srcSample_of_sin {c : Channel} (h : c.kind = 2) : srcSample c = lookup .sin c.phase := by
  rw [srcSample, if_neg (by rw [h]; decide), if_pos h]

theorem srcSample_of_rsl {c : Channel} (h : c.kind = 3) : srcSample c = q8 (fixVal c.rsCur) := by
  rw [srcSample, if_neg (by rw [h]; decide), if_neg (by rw [h]; decide), if_pos h]

theorem srcSample_of_other {c : Channel} (h1 : c.kind ≠ 1) (h2 : c.kind ≠ 2) (h3 : c.kind ≠ 3) :
    srcSample c = lookup .tri c.phase := by
  rw [srcSample, if_neg h1, if_neg h2, if_neg h3]

/-- Settles O53: three kinds have a source of their own; a lookup gives its table's entry. -/
theorem sourceSampleCollapsesDerivedKinds : Obligations.SourceSampleCollapsesDerivedKinds := by
  intro c
  refine ⟨fun h => ?sqr, fun h => ?sin, fun h => ?rsl, fun h1 h2 h3 => ?other⟩
  case sqr => rw [srcSample_of_sqr h, lookup_toNat]
  case sin => rw [srcSample_of_sin h, lookup_toNat]
  case rsl => rw [srcSample_of_rsl h, q8_eq_sample, fixVal_eq, Int.cast_natCast]
  case other => rw [srcSample_of_other h1 h2 h3, lookup_toNat]

end Sys2Proof.Machine
end

section
/-!
PROOFS. The basic waveforms (R170 to R173): the operands of the template in the spec's numbers, what an update
that is handed over leaves, and the template over each of the three tables.
-/

namespace Sys2Proof.Machine

open Sys2Proof.Vocab

/-! ## The template's operands in the spec's numbers -/

theorem baseFreq_eq_hz (c : Channel) : baseFreq c = hz c := baseFreq_eq c

/-- The model's advance is the spec's, with `TABLE_SIZE / SAMPLE_RATE` worked out (R149). -/
theorem advance_eq_advanced (p : Nat) (f : ℚ) : advance p f = advanced p f := by
  rw [advance, fixVal_eq, inc_eq, Q, gridScale_eq, advanced]
  push_cast
  rfl

/-- A looked-up sample is the table's entry at the phase as a byte (R61, R148). -/
theorem lookup_eq_entry (t : Table) (p : Nat) : lookup t p = BitVec.ofNat 8 (entry t p) := by
  rw [← lookup_toNat, BitVec.ofNat_toNat, BitVec.setWidth_eq]

/-- The template of R170: the lookup reads the phase just written. -/
theorem advanceAndLookup_eq (t : Table) (f : ℚ) (c : Channel) :
    advanceAndLookup t f c =
      { c with phase := advanced c.phase f, out := BitVec.ofNat 8 (entry t (advanced c.phase f)) } := by
  rw [advanceAndLookup, advance_eq_advanced, lookup_eq_entry]

/-! ## Updates handed over -/

/-- An update handed over leaves its own two results and moves nothing else (R110, R112). -/
theorem updatesTo_of_updateOf {i : Instr} {u : Update} (h : updateOf i = some u) (s : State) :
    UpdatesTo i s (u (s.ch s.hand.chan) s.hand.modulator s.hand.tMs s.rand).1
      (u (s.ch s.hand.chan) s.hand.modulator s.hand.tMs s.rand).2 :=
  ⟨_, exec_of_updateOf h s, s.runUpdate_ch_same u, s.runUpdate_rand u, s.runUpdate_frame u⟩

/-- An instruction whose update is the template at the base frequency, reading table `t` (R170). -/
theorem updatesTo_of_template {i : Instr} {t : Table}
    (h : updateOf i = some fun c _ _ r => (advanceAndLookup t (baseFreq c) c, r)) (s : State) :
    let c := s.ch s.hand.chan
    let p := advanced c.phase (hz c)
    UpdatesTo i s { c with phase := p, out := BitVec.ofNat 8 (entry t p) } s.rand := by
  have hu := updatesTo_of_updateOf h s
  rwa [advanceAndLookup_eq, baseFreq_eq_hz] at hu

/-! ## The obligations -/

/-- Settles O25: `TRI` is the template over the triangle table. -/
theorem triAdvancesAndReadsTriangle : Obligations.TriAdvancesAndReadsTriangle :=
  updatesTo_of_template (i := .tri) rfl

/-- Settles O26: `SQR` is the template over the square table. -/
theorem sqrAdvancesAndReadsSquare : Obligations.SqrAdvancesAndReadsSquare :=
  updatesTo_of_template (i := .sqr) rfl

/-- Settles O27: `SIN` is the template over the sine table. -/
theorem sinAdvancesAndReadsSine : Obligations.SinAdvancesAndReadsSine :=
  updatesTo_of_template (i := .sin) rfl

end Sys2Proof.Machine
end

section
/-!
PROOFS. The stateful generative waveforms (R180 to R202): each stage of an update is the stage the spec writes
out, in the spec's numbers; the four instructions are assembled from their stages.
-/

namespace Sys2Proof.Machine

open Sys2Proof.Vocab

/-! ## Operands in the spec's numbers -/

/-- The value of an unsigned fixed-point register (R43). -/
theorem fixVal_natCast (n : Nat) : fixVal (n : Int) = (n : ℚ) / 2 ^ 32 := by
  rw [fixVal_eq, Int.cast_natCast]

theorem chance_fst_iff (r : Rand) (p d : Int) : (chance r p d).1 = true ↔ (draw r 0 (d - 1)).1 < p :=
  decide_eq_true_iff

/-- `clamp` on rationals as the order's own bounds (R143). -/
theorem clamp_eq_limit {x lo hi : ℚ} (h : lo ≤ hi) : clamp x lo hi = limit x lo hi := by
  unfold clamp limit
  split_ifs with h1 h2
  · rw [min_eq_left (h1.le.trans h), max_eq_left h1.le]
  · rw [min_eq_right h2.le, max_eq_right h]
  · rw [min_eq_left (not_lt.mp h2), max_eq_right (not_lt.mp h1)]

/-- `clampQ` on raw integers, for bounds with a grid value between them (R144). -/
theorem clampQ_eq_max_min {x lo hi : ℚ} (h : Qc lo ≤ Q hi) :
    clampQ x lo hi = max (Qc lo) (min ⌊x * 2 ^ 32⌋ (Q hi)) := by
  rw [clampQ, clampInt_eq_max_min h, Q_eq x]

/-! ## Random Slope -/

/-- The hold of R181 by the sign of the step. -/
theorem holdAtTarget_eq (v step tgt : Int) :
    holdAtTarget v step tgt = if 0 < step then min v tgt else if step < 0 then max v tgt else v := by
  rcases holdAtTarget_cases v step tgt with ⟨h, e⟩ | ⟨h, e⟩ | ⟨h, e⟩
  · rw [e, if_pos h]
  · rw [e, if_neg h.not_gt, if_pos h]
  · rw [e, if_neg (by omega), if_neg (by omega)]

/-- From a value and towards a target that are not negative, the ramp does not go below zero. -/
theorem holdAtTarget_add_nonneg {cur tgt : Int} (hc : 0 ≤ cur) (ht : 0 ≤ tgt) (step : Int) :
    0 ≤ holdAtTarget (cur + step) step tgt := by
  rcases holdAtTarget_cases (cur + step) step tgt with ⟨h, e⟩ | ⟨h, e⟩ | ⟨h, e⟩ <;> omega

/-- Step 2 of R181: storing the value reached in an unsigned register loses nothing, so the sample is that of
the register. -/
theorem slopeAdvance_eq_ramp (c : Channel) : slopeAdvance c = ramp c := by
  have hv := holdAtTarget_add_nonneg (Int.natCast_nonneg c.rsCur)
    (show (0 : Int) ≤ c.rsTgt.toNat * 2 ^ 32 by positivity) c.rsStep
  have hs : (slopeValue c : Int) = holdAtTarget (c.rsCur + c.rsStep) c.rsStep (c.rsTgt.toNat * 2 ^ 32) :=
    Int.toNat_of_nonneg hv
  rw [slopeAdvance, q8_eq_sample, fixVal_eq, hs, ramp]
  simp only [← holdAtTarget_eq, ← hs, Int.toNat_natCast]

theorem retarget_of_not_due {c : Channel} {tMs : Time} (h : retargetDue c tMs = false) (r : Rand) :
    retarget c tMs r = (c, r) := by
  simp [retarget, h]

/-- Step 1 of R181 when a period has gone by. -/
theorem retarget_of_due {c : Channel} {tMs : Time} (h : retargetDue c tMs = true) (r : Rand) :
    retarget c tMs r =
      ({ c with
          rsLast := tMs
          rsTgt := BitVec.ofInt 8 (draw r 0 255).1
          rsStep := ⌊(((draw r 0 255).1 : ℚ) - (c.rsCur : ℚ) / 2 ^ 32) * hz c / 2500 * 2 ^ 32⌋ },
        (draw r 0 255).2) := by
  have h0 := draw_ge r (lo := 0) (hi := 255) (by norm_num)
  have h1 := draw_le r (lo := 0) (hi := 255) (by norm_num)
  have htgt : (((BitVec.ofInt 8 (draw r 0 255).1).toNat : Int) : ℚ) = (draw r 0 255).1 := by
    congr 1
    rw [BitVec.toNat_ofInt]
    omega
  rw [Int.cast_natCast] at htgt
  simp only [retarget, h, if_true, slopeStep, Q_eq, fixVal_natCast, baseFreq_eq_hz, sampleRate_eq, htgt]

/-- Settles O28: the ramp runs after the retarget test, on the channel as that test left it. -/
theorem rslRetargetsThenRamps : Obligations.RslRetargetsThenRamps := by
  intro s
  have hu := updatesTo_of_updateOf (i := .rsl) rfl s
  rw [updateRsl, slopeAdvance_eq_ramp] at hu
  refine ⟨fun hn => ?_, fun hd => ?_⟩
  · have hdue : retargetDue (s.ch s.hand.chan) s.hand.tMs = false := by
      rw [← Bool.not_eq_true, retargetDue_iff]
      exact hn
    rwa [retarget_of_not_due hdue] at hu
  · rwa [retarget_of_due ((retargetDue_iff _ _).mpr hd)] at hu

/-! ## Wonky Triangle -/

/-- Jitter and nudge (R186). -/
theorem phaseKick_eq_kick (pct hi : Int) (c : Channel) (r : Rand) : phaseKick pct hi c r = kick pct hi c r := by
  simp only [phaseKick, chance_fst_iff, gridScale_eq]
  rfl

/-- The drift range of R187: its bounds are in order. -/
theorem driftRange_eq (b : ℚ) :
    driftRange b = limit (3 / 10 - 1 / 4 * (b - 1 / 20) / (20 - 1 / 20)) (1 / 20) (3 / 10) := by
  rw [driftRange, clamp_eq_limit (by norm_num)]
  norm_num

/-- The multiplier's clamp: the bounds 0.6 and 1.6 lie between grid values, and the register keeps the inner
ones (R186, R188). -/
theorem clampQ_wkMult (x : ℚ) :
    clampQ x cfg.wkMultLo cfg.wkMultHi = max 2576980378 (min ⌊x * 2 ^ 32⌋ 6871947673) := by
  have hlo : Qc cfg.wkMultLo = 2576980378 := by
    rw [Qc_eq]
    norm_num [Int.ceil_eq_iff]
  have hhi : Q cfg.wkMultHi = 6871947673 := by
    rw [Q_eq]
    norm_num [Int.floor_eq_iff]
  rw [clampQ_eq_max_min (by rw [hlo, hhi]; decide), hlo, hhi]

theorem wonkyHoldDraw_eq (r : Rand) :
    wonkyHoldDraw r =
      if (draw r 0 99).1 < 80 then draw (draw r 0 99).2 200 800 else draw (draw r 0 99).2 10 80 := by
  simp only [wonkyHoldDraw, chance_fst_iff]
  rfl

/-- The drawn multiplier when the test says a gentle drift (R186, R187). -/
theorem wonkyMultDraw_of_gentle {r : Rand} (h : (draw r 0 99).1 < 70) (c : Channel) :
    wonkyMultDraw (baseFreq c) r =
      (1 + ((draw r.advance (-100) 100).1 : ℚ) / 100 *
          limit (3 / 10 - 1 / 4 * (hz c - 1 / 20) / (20 - 1 / 20)) (1 / 20) (3 / 10),
        r.advance.advance) := by
  rw [← driftRange_eq, ← baseFreq_eq_hz]
  exact if_pos ((chance_fst_iff r 70 100).mpr h)

/-- The drawn multiplier when the test says a glitch (R186). -/
theorem wonkyMultDraw_of_glitch {r : Rand} (h : ¬ (draw r 0 99).1 < 70) (b : ℚ) :
    wonkyMultDraw b r = (((draw r.advance 50 180).1 : ℚ) / 100, r.advance.advance) :=
  if_neg fun hc => h ((chance_fst_iff r 70 100).mp hc)

/-- Step 2 of R186. -/
theorem wonkyHold_eq_hold (c : Channel) (r : Rand) : wonkyHold c r = hold c r := by
  unfold wonkyHold hold
  split
  · simp only [← wonkyHoldDraw_eq, clampQ_wkMult]
    by_cases hg : (draw (wonkyHoldDraw r).2 0 99).1 < 70
    · simp only [wonkyMultDraw_of_gentle hg, hg, if_true, draw_snd]
    · simp only [wonkyMultDraw_of_glitch hg, hg, if_false, draw_snd]
  · rfl

/-- Step 3 of R186: the threshold is 1.25 times the base frequency. -/
theorem wonkyNudge_eq (c : Channel) (r : Rand) :
    wonkyNudge c r = if 5 / 4 < (c.wkMult : ℚ) / 2 ^ 32 then kick 2 8 c r else (c, r) := by
  have hthresh : cfg.wkNudgeThresh = 5 / 4 := by norm_num
  rw [wonkyNudge, hthresh, fixVal_natCast, phaseKick_eq_kick]
  rfl

/-- Step 4 of R186, at the base frequency the update started with: the steps before it leave `FREQ` alone. -/
theorem wonkyAdvance_eq {c₀ c : Channel} (h : MovesOnly 4 c₀ c) :
    let p := advanced c.phase (hz c₀ * ((c.wkMult : ℚ) / 2 ^ 32))
    wonkyAdvance c = { c with phase := p, out := BitVec.ofNat 8 (entry .tri p) } := by
  have hfreq : hz c = hz c₀ := (congrArg hz h).trans rfl
  rw [wonkyAdvance, advanceAndLookup_eq, baseFreq_eq_hz, hfreq, fixVal_natCast]

/-- The four steps in the order of R186. -/
theorem updateWnk_eq_wonky (c : Channel) (m : Byte) (t : Time) (r : Rand) : updateWnk c m t r = wonky c r := by
  have hjit : wonkyJitter c r = kick 5 4 c r := phaseKick_eq_kick 5 4 c r
  have hmoves := (wonkyJitter_movesOnly c r).trans ((wonkyHold_movesOnly _ (wonkyJitter c r).2).trans
    (wonkyNudge_movesOnly _ (wonkyHold (wonkyJitter c r).1 (wonkyJitter c r).2).2))
  simp only [hjit, wonkyHold_eq_hold, wonkyNudge_eq, Prod.mk.eta] at hmoves
  simp only [updateWnk, hjit, wonkyHold_eq_hold, wonkyNudge_eq, Prod.mk.eta, wonkyAdvance_eq hmoves, wonky]

/-- Settles O29: each of the four steps is the spec's, and they run in its order. -/
theorem wnkRunsItsFourSteps : Obligations.WnkRunsItsFourSteps := by
  intro s
  have hu := updatesTo_of_updateOf (i := .wnk) rfl s
  rwa [updateWnk_eq_wonky] at hu

/-! ## Ratchet Triangle -/

/-- At the last burst before a long pause, the pause is drawn first and the new `RT_MAXB` second (R195). -/
theorem pauseChoice_of_last {c : Channel} (h : c.rtMaxb ≤ c.rtBcount + 1) (r : Rand) :
    pauseChoice c r =
      (((draw r 200 600).1.toNat, 0, (draw r.advance 2 5).1.toNat), r.advance.advance) :=
  if_pos ((lastBurst_iff c).mpr h)

theorem pauseChoice_of_not_last {c : Channel} (h : ¬ c.rtMaxb ≤ c.rtBcount + 1) (r : Rand) :
    pauseChoice c r = (((draw r 50 150).1.toNat, c.rtBcount + 1, c.rtMaxb), r.advance) :=
  if_neg fun hl => h ((lastBurst_iff c).mp hl)

/-- The stutter test of R195, over a pause `p` already drawn. -/
theorem stutter_toNat (p : Int) (r : Rand) :
    let last := if (draw r 0 99).1 < 10 then draw r.advance 10 30 else (p, r.advance)
    stutter p.toNat r = (last.1.toNat, last.2) := by
  by_cases h : (draw r 0 99).1 < 10
  · rw [if_pos h]
    exact if_pos ((chance_fst_iff r 10 100).mpr h)
  · rw [if_neg h]
    exact if_neg fun hc => h ((chance_fst_iff r 10 100).mp hc)

/-- The Bursting arm of R195: the phase moves on whether or not the burst ends. -/
theorem ratchetBurst_eq_ratchet {c : Channel} (hst : c.rtSt = .bursting) (r : Rand) :
    ratchetBurst c r = ratchet c r := by
  simp only [ratchetBurst, ratchet, hst, burstOver_iff, advance_eq_advanced, baseFreq_eq_hz]
  split
  · by_cases hl : c.rtMaxb ≤ c.rtBcount + 1
    · simp only [pauseChoice_of_last hl, stutter_toNat, hl, if_true, draw_snd]
    · simp only [pauseChoice_of_not_last hl, stutter_toNat, hl, if_false, draw_snd, Int.toNat_natCast]
  · rfl

/-- The Paused arm of R195: the phase is not written. -/
theorem ratchetPause_eq_ratchet {c : Channel} (hst : c.rtSt = .paused) (r : Rand) :
    ratchetPause c r = ratchet c r := by
  simp only [ratchetPause, ratchet, hst, pauseOver_iff]
  rfl

/-- `RT_ST` chooses the arm (R194). -/
theorem ratchetArm_eq_ratchet (c : Channel) (r : Rand) : ratchetArm c r = ratchet c r := by
  cases hst : c.rtSt with
  | bursting => simp only [ratchetArm, hst, ratchetBurst_eq_ratchet hst]
  | paused => simp only [ratchetArm, hst, ratchetPause_eq_ratchet hst]

/-- Settles O30: the triangle is read at the phase the arm left. -/
theorem ratRunsTheArmOfItsState : Obligations.RatRunsTheArmOfItsState := by
  intro s
  have hu := updatesTo_of_updateOf (i := .rat) rfl s
  simp only [updateRat, ratchetArm_eq_ratchet, lookup_eq_entry] at hu
  exact hu

/-! ## Gravity -/

/-- Step 1 of R201. -/
theorem gravityRetarget_eq_newTarget (c : Channel) (r : Rand) : gravityRetarget c r = newTarget c r := by
  simp only [gravityRetarget, newTarget, chance_fst_iff, Q_eq, baseFreq_eq_hz, mul_div_assoc]
  rfl

/-- The band `[0.1 b, 5 b]` holds a grid value at every code, 0 included: `5 b` is one, since `FREQ` has 16
fraction bits (R202). -/
theorem gravityBand_ordered (c : Channel) : Qc (hz c / 10) ≤ Q (5 * hz c) := by
  have hgrid : 5 * hz c = fixVal (5 * 65536 * c.freq.toNat) := by
    rw [fixVal_eq, hz]
    push_cast
    ring
  have hfreq : (0 : ℚ) ≤ c.freq.toNat := by positivity
  rw [hgrid, Q_fixVal, Qc_le_iff, hz]
  push_cast
  linarith

/-- Step 2 of R201 on raw integers: both registers are on the grid, so their scale cancels. -/
theorem gravityPull_eq_pulled (c : Channel) : gravityPull c = (pulled c).toNat := by
  have hscale : (fixVal c.gvCur + 18 / 100 * (fixVal c.gvTgt - fixVal c.gvCur)) * 2 ^ 32 =
      (c.gvCur : ℚ) + 18 / 100 * ((c.gvTgt : ℚ) - (c.gvCur : ℚ)) := by
    rw [fixVal_natCast, fixVal_natCast]
    ring
  have hlo : cfg.gravLo * baseFreq c = hz c / 10 := by
    rw [baseFreq_eq_hz, cfg_gravLo, one_div_mul_eq_div]
  have hhi : cfg.gravHi * baseFreq c = 5 * hz c := by
    rw [baseFreq_eq_hz, cfg_gravHi]
  rw [gravityPull, hlo, hhi, cfg_gravPull, clampQ_eq_max_min (gravityBand_ordered c), hscale, Qc_eq, Q_eq, pulled]

/-- Steps 2 and 3 of R201: the advance runs at the frequency just pulled. -/
theorem gravityAdvance_eq (c : Channel) :
    let cur := (pulled c).toNat
    let p := advanced c.phase ((cur : ℚ) / 2 ^ 32)
    gravityAdvance c = { c with gvCur := cur, phase := p, out := BitVec.ofNat 8 (entry .tri p) } := by
  rw [gravityAdvance, advanceAndLookup_eq, gravityPull_eq_pulled, fixVal_natCast]

/-- Settles O31: the pull and the advance run on the channel as the retarget left it. -/
theorem grvRetargetsPullsAndAdvances : Obligations.GrvRetargetsPullsAndAdvances := by
  intro s
  have hu := updatesTo_of_updateOf (i := .grv) rfl s
  rwa [updateGrv, gravityRetarget_eq_newTarget, gravityAdvance_eq] at hu

end Sys2Proof.Machine
end

section
/-!
PROOFS. The cross-modulated and multi-accumulator waveforms (R210 to R219): the sample each of them mixes, in the
spec's numbers and over the table entries it reads; an update is then its advances and its mix.
-/

namespace Sys2Proof.Machine

open Sys2Proof.Vocab

/-! ## Bipolar samples -/

theorem bip_eq_bipolar (s : Byte) : bip s = bipolar s.toNat := rfl

/-- A looked-up sample as a bipolar value (R146, R148). -/
theorem bip_lookup (t : Table) (p : Nat) : bip (lookup t p) = bipolar (entry t p) := by
  rw [bip_eq_bipolar, lookup_toNat]

/-- The last step of `AM`, `SWM` and `PEN`: the mix is held in -1 to 1 and made a sample (R147). -/
theorem unbip_clamp (y : ℚ) : unbip (clamp y (-1) 1) = unipolar (limit y (-1) 1) := by
  rw [unbip, q8_eq_sample, clamp_eq_limit (by norm_num), unipolar]

/-! ## Frequency Modulation -/

/-- `fi` of R211 in the spec's numbers. -/
theorem fmFreq_eq (b : ℚ) (m : Byte) : fmFreq b m = limit (b + 20 * bipolar m.toNat) (1 / 100) 25 := by
  rw [fmFreq, cfg_fmDepthHz, cfg_fmFLo, cfg_fmFHi, clamp_eq_limit (by norm_num), bip_eq_bipolar]

/-- Settles O32: `FM` is the template over the triangle table, driven at `fi`. -/
theorem fmAddsTheModulator : Obligations.FmAddsTheModulator := by
  intro s
  have hu := updatesTo_of_updateOf (i := .fm) rfl s
  rwa [updateFm, advanceAndLookup_eq, fmFreq_eq, baseFreq_eq_hz] at hu

/-! ## TriSine -/

/-- The sample of R213 over the two entries read. -/
theorem trisineMix_lookup (p q : Nat) :
    trisineMix (lookup .tri p) (lookup .sin q) =
      sample (limit (((entry .tri p : ℚ) - 128) - ((entry .sin q : ℚ) - 128) / 2) (-127) 127 + 128) := by
  rw [trisineMix, cfg_trisineClamp, clamp_eq_limit (by norm_num), q8_eq_sample, lookup_toNat, lookup_toNat]

/-- Settles O33: `TS_SEL` is a two-bit register, so its four values are the four ratios of the list. -/
theorem tsnMixesTriangleAndSine : Obligations.TsnMixesTriangleAndSine := by
  intro s c ratio
  have hratio : trisineRatio c.tsSel = ratio := by
    have hsel : c.tsSel.toNat < 4 := c.tsSel.isLt
    simp only [trisineRatio, cfg_trisineRatios, ratio]
    interval_cases c.tsSel.toNat <;> rfl
  have hu := updatesTo_of_updateOf (i := .tsn) rfl s
  simp only [updateTsn, advance_eq_advanced, baseFreq_eq_hz, trisineMix_lookup] at hu
  rwa [hratio] at hu

/-! ## Amplitude Modulation -/

/-- The sample of R215 over the carrier's entry; the depth is 1. -/
theorem amMix_lookup (p : Nat) (m : Byte) :
    amMix (lookup .sin p) m = unipolar (limit (bipolar (entry .sin p) * (1 + bipolar m.toNat)) (-1) 1) := by
  rw [amMix, unbip_clamp, cfg_amDepth, one_mul, bip_lookup, bip_eq_bipolar]

/-- Settles O34: the carrier is read at the phase just written. -/
theorem amScalesTheCarrier : Obligations.AmScalesTheCarrier := by
  intro s
  have hu := updatesTo_of_updateOf (i := .am) rfl s
  simp only [updateAm, advance_eq_advanced, baseFreq_eq_hz, amMix_lookup] at hu
  exact hu

/-! ## Swarm -/

/-- The amplitude of R217: its range 1/10 to 9/10 is 8/10 wide. -/
theorem swarmAmp_lookup (b : Nat) : swarmAmp (lookup .tri b) = 1 / 10 + 8 / 10 * (entry .tri b : ℚ) / 255 := by
  have hwidth : (9 / 10 - 1 / 10 : ℚ) = 8 / 10 := by norm_num
  rw [swarmAmp, cfg_swarmAmpLo, cfg_swarmAmpHi, hwidth, lookup_toNat]

/-- The sample of R217 over the five entries read; ratios and weights pair by position. -/
theorem swarmMix_lookup (b p p0 p1 p2 : Nat) :
    swarmMix (lookup .tri b) (lookup .sin p) (lookup .tri p0) (lookup .tri p1) (lookup .tri p2) =
      unipolar (limit
        ((1 / 10 + 8 / 10 * (entry .tri b : ℚ) / 255) * bipolar (entry .sin p) + 45 / 100 * bipolar (entry .tri p0)
          + 32 / 100 * bipolar (entry .tri p1) + 40 / 100 * bipolar (entry .tri p2)) (-1) 1) := by
  simp only [swarmMix, unbip_clamp, swarmAmp_lookup, bip_lookup, cfg_swarmWeight0, cfg_swarmWeight1,
    cfg_swarmWeight2]

/-- Settles O35: the breathing accumulator runs at its own rate, the other four at multiples of the base
frequency. -/
theorem swmMixesFiveAccumulators : Obligations.SwmMixesFiveAccumulators := by
  intro s
  have hu := updatesTo_of_updateOf (i := .swm) rfl s
  simp only [updateSwm, advance_eq_advanced, baseFreq_eq_hz, cfg_swarmBreathHz, cfg_swarmRatio0, cfg_swarmRatio1,
    cfg_swarmRatio2, swarmMix_lookup] at hu
  exact hu

/-! ## Pendulum -/

/-- The sample of R219 over the two entries read. -/
theorem pendulumMix_lookup (p q : Nat) :
    pendulumMix (lookup .tri p) (lookup .tri q) =
      unipolar (limit ((bipolar (entry .tri p) + bipolar (entry .tri q)) / 2) (-1) 1) := by
  rw [pendulumMix, unbip_clamp, bip_lookup, bip_lookup]

/-- Settles O36: accumulator A is `PHASE`, accumulator B the detuned `PN_PHASE`. -/
theorem penAveragesTwoTriangles : Obligations.PenAveragesTwoTriangles := by
  intro s
  have hu := updatesTo_of_updateOf (i := .pen) rfl s
  simp only [updatePen, advance_eq_advanced, baseFreq_eq_hz, cfg_pendDetune, pendulumMix_lookup] at hu
  exact hu

end Sys2Proof.Machine
end

section
/-!
PROOFS. The encoding (30_encoding.md R80 to R91): the fields of a command word as numbers, the decoder over those
fields, and that it reads back what the encoder writes.
-/

namespace Sys2Proof

/-! ## The fields as numbers -/

theorem opField_toNat (w : CmdWord) : (opField w).toNat = w.toNat / 2 ^ 28 := by
  have hw : w.toNat < 2 ^ 32 := w.isLt
  simp only [opField, BitVec.extractLsb'_toNat, Nat.shiftRight_eq_div_pow]
  omega

theorem opField_eq_ofNat (w : CmdWord) : opField w = BitVec.ofNat 4 (w.toNat / 2 ^ 28) := by
  rw [← opField_toNat, BitVec.ofNat_toNat, BitVec.setWidth_eq]

theorem chField_eq_ofNat (w : CmdWord) : chField w = Fin.ofNat 4 (w.toNat / 2 ^ 26) := by
  apply Fin.ext
  simp only [chField, Fin.ofNat, BitVec.extractLsb'_toNat, Nat.shiftRight_eq_div_pow]
  omega

/-- The low `n` bits of `IMM` are the low `n` bits of the word (R81, R83). -/
theorem immField_low (w : CmdWord) {n : Nat} (hn : n ≤ 24) :
    (immField w).extractLsb' 0 n = BitVec.ofNat n (w.toNat % 2 ^ n) := by
  apply BitVec.eq_of_toNat_eq
  simp only [immField, BitVec.extractLsb'_toNat, Nat.shiftRight_zero, BitVec.toNat_ofNat, Nat.mod_mod]
  exact Nat.mod_mod_of_dvd _ (pow_dvd_pow 2 hn)

theorem immField_eq_ofNat (w : CmdWord) : immField w = BitVec.ofNat 24 (w.toNat % 2 ^ 24) := by
  rw [← immField_low w le_rfl, BitVec.extractLsb'_eq_self]

theorem dirField_eq (w : CmdWord) : dirField w = if w.toNat % 2 = 0 then .plusOne else .minusOne := by
  have hbit : (immField w).extractLsb' 0 1 = 0#1 ↔ w.toNat % 2 = 0 := by
    rw [immField_low w (by decide), ← BitVec.toNat_inj, BitVec.toNat_ofNat, BitVec.toNat_ofNat]
    omega
  simp only [dirField, hbit]

/-- Settles O2: the decoder's own match, its opcode and its operands written as numbers. -/
theorem decodeByFields : Obligations.DecodeByFields := by
  intro w ch
  simp only [decodeCommand, opField_toNat, chField_eq_ofNat, dirField_eq, immField_low w (show 10 ≤ 24 by decide),
    immField_low w (show 8 ≤ 24 by decide)]
  rw [immField_eq_ofNat, opField_eq_ofNat]
  match w.toNat / 2 ^ 28 with
  | 0 | 1 | 2 | 3 | 4 | 5 | 6 | 7 => rfl
  | _ + 8 => rfl

/-- Settles O5: each of the eight words is evaluated. -/
theorem listedWordsDecode : Obligations.ListedWordsDecode :=
  ⟨rfl, rfl, rfl, rfl, rfl, rfl, rfl, rfl⟩

/-! ## What names no instruction -/

/-- Settles O4: the twelve arms of the kind decoder are the codes below 12. -/
theorem codesAboveElevenNameNoKind : Obligations.CodesAboveElevenNameNoKind := by
  intro k hk
  unfold decodeKind
  split
  case h_13 => rfl
  all_goals omega

/-- A word from 2^31 on has a reserved opcode (R84). -/
theorem decodeCommand_of_reserved {w : CmdWord} (h : 2 ^ 31 ≤ w.toNat) :
    decodeCommand w = .error (.reservedOpcode (opField w)) := by
  have hop := opField_toNat w
  unfold decodeCommand
  split
  case h_9 => rfl
  all_goals omega

/-! ## Decoding what was encoded -/

/-- An operand shorter than `IMM` is found again in its low bits (R81, R83). -/
theorem extractLsb'_setWidth_imm {n : Nat} (v : BitVec n) (hn : n ≤ 24) :
    (v.setWidth 24).extractLsb' 0 n = v := by
  rw [BitVec.extractLsb'_setWidth_of_le (by omega), BitVec.extractLsb'_eq_self]

theorem dirField_commandWord (op : BitVec 4) (ch : ChIx) (d : Direction) :
    dirField (commandWord op ch d.code) = d := by
  rw [dirField, immField_commandWord]
  cases d with
  | plusOne => rfl
  | minusOne => rfl

/-- Settles O1: a command's opcode selects its own arm, which reads each operand from the field it was written
to; a kind's code selects its own arm. -/
theorem decodeOfEncode : Obligations.DecodeOfEncode := by
  intro i
  cases i with
  | nop | reset | poll | selnx => rfl
  | sethz ch code =>
    simp only [encode, decode, decodeCommand, opField_commandWord, chField_commandWord, immField_commandWord]
    rfl
  | setn ch k =>
    simp only [encode, decode, decodeCommand, opField_commandWord, chField_commandWord, immField_commandWord,
      extractLsb'_setWidth_imm k (by decide)]
    rfl
  | loadk ch v =>
    simp only [encode, decode, decodeCommand, opField_commandWord, chField_commandWord, immField_commandWord,
      extractLsb'_setWidth_imm v (by decide)]
    rfl
  | wadv d =>
    simp only [encode, decode, decodeCommand, opField_commandWord, dirField_commandWord]
    rfl
  | tri | sqr | sin | rsl | wnk | fm | rat | tsn | am | swm | pen | grv => rfl

end Sys2Proof
end

section
/-!
PROOFS. One step (R84, R104, R120, R245, R262): which of its branches a step takes, that it has a next state, and
what it does to the hand-over and to the output ports.
-/

namespace Sys2Proof.Machine

open Sys2Proof.Vocab

/-! ## The branches of a step -/

theorem step_of_live {s : State} (hl : s.hand.live = true) : step s = stepUpdate s := if_pos hl

theorem step_of_port_nil {s : State} (hl : s.hand.live = false) (hp : s.port = []) : step s = .next s := by
  rw [step, if_neg (by simp [hl]), hp]

theorem step_of_port_cons {s : State} {c : Command} {rest : List Command} (hl : s.hand.live = false)
    (hp : s.port = c :: rest) : step s = stepCommand s c rest := by
  rw [step, if_neg (by simp [hl]), hp]

theorem State.clockWentBack_iff (s : State) (c : Command) :
    s.clockWentBack c = true ↔ c.now.toNat < s.now.toNat := decide_eq_true_iff

theorem stepUpdate_of_decode {s : State} {i : Instr} (h : decodeKind s.fetchKind = .ok i) :
    stepUpdate s = exec i s := by
  rw [stepUpdate, h]

theorem stepUpdate_of_reject {s : State} {e : Reject} (h : decodeKind s.fetchKind = .error e) :
    stepUpdate s = .refused (.noSuchKind s.fetchKind) := by
  rw [stepUpdate, h]

theorem stepCommand_of_back {s : State} {c : Command} (rest : List Command) (h : c.now.toNat < s.now.toNat) :
    stepCommand s c rest = .refused (.clockWentBack s.now c.now) :=
  if_pos ((s.clockWentBack_iff c).mpr h)

theorem stepCommand_of_decode {s : State} {c : Command} (rest : List Command) {i : Instr}
    (hc : s.now.toNat ≤ c.now.toNat) (h : decodeCommand c.word = .ok i) :
    stepCommand s c rest = exec i (s.accept c rest) := by
  rw [stepCommand, if_neg (by rw [s.clockWentBack_iff]; omega), h]

theorem stepCommand_of_reject {s : State} {c : Command} (rest : List Command) {e : Reject}
    (hc : s.now.toNat ≤ c.now.toNat) (h : decodeCommand c.word = .error e) :
    stepCommand s c rest = .next (s.accept c rest) := by
  rw [stepCommand, if_neg (by rw [s.clockWentBack_iff]; omega), h]
  rfl

/-- Settles O6: with the clock kept, the command is accepted and its instruction executed. -/
theorem stepRunsTheDecodedCommand : Obligations.StepRunsTheDecodedCommand := by
  intro s c rest i hl hp hc hi
  rw [step_of_port_cons hl hp, stepCommand_of_decode rest hc hi, State.accept]

/-- Settles O7: the step is dispatched on the kind of the channel handed over. -/
theorem stepRunsTheKindHandedOver : Obligations.StepRunsTheKindHandedOver := by
  intro s i hl hi
  rw [step_of_live hl, stepUpdate_of_decode hi]

/-- Settles O8: a word from 2^31 on is rejected, and a rejected word is accepted without effect. -/
theorem reservedWordChangesNoRegister : Obligations.ReservedWordChangesNoRegister := by
  intro s c rest hl hp hc hw
  rw [step_of_port_cons hl hp, stepCommand_of_reject rest hc (decodeCommand_of_reserved hw), State.accept]

/-- Settles O9: with an empty port a step is idle. -/
theorem idleStepChangesNothing : Obligations.IdleStepChangesNothing := fun _ => step_of_port_nil

/-- Settles O10: the test on the clock comes before the decoder. -/
theorem clockGoingBackIsRefused : Obligations.ClockGoingBackIsRefused := by
  intro s c rest hl hp hc
  rw [step_of_port_cons hl hp, stepCommand_of_back rest hc]

/-! ## A next state -/

theorem State.Inv.kindsLegal {s : State} (h : s.Inv) : s.kindsLegal := fun i => (h.channel i).kind_legal

/-- Only a pass over an unknown kind keeps an instruction from having a next state (R87, R245). -/
theorem exec_total (i : Instr) {s : State} (hk : s.kindsLegal) : ∃ t, exec i s = .next t := by
  cases i
  case poll =>
    cases hd : s.tickDue with
    | true => exact ⟨_, execPoll_due hd hk⟩
    | false => exact ⟨_, execPoll_not_due hd⟩
  all_goals exact ⟨_, rfl⟩

/-- Settles O11: by what the step takes its instruction from; legal kinds decode and let a pass run, and the clock
has not gone back. -/
theorem everyCommandHasASuccessor : Obligations.EveryCommandHasASuccessor := by
  intro s hinv hclock
  cases hl : s.hand.live with
  | true =>
    obtain ⟨i, _, hi, _, _⟩ := decodeKind_legal (hinv.kindsLegal s.hand.chan)
    rw [step_of_live hl, stepUpdate_of_decode hi]
    exact exec_total i hinv.kindsLegal
  | false =>
    cases hp : s.port with
    | nil => exact ⟨s, step_of_port_nil hl hp⟩
    | cons c rest =>
      have hc : s.now.toNat ≤ c.now.toNat := hclock c (by simp [hp])
      rw [step_of_port_cons hl hp]
      cases hi : decodeCommand c.word with
      | ok i =>
        rw [stepCommand_of_decode rest hc hi]
        exact exec_total i (s := s.accept c rest) hinv.kindsLegal
      | error e => exact ⟨_, stepCommand_of_reject rest hc hi⟩

/-! ## What a step does to the hand-over and to the outputs -/

/-- Settles O12: an update uses the hand-over up; without one `live` was false before and no command writes it. -/
theorem stepClearsTheHandover : Obligations.StepClearsTheHandover := by
  intro s t h
  have keep (hl : s.hand.live = false) : s.hand = { s.hand with live := false } := by rw [← hl]
  rcases step_cases h with ⟨_, i, hi, he⟩ | ⟨hl, _, rfl⟩ | ⟨hl, c, rest, _, _, hc⟩
  · obtain ⟨u, hu⟩ := updateOf_decodeKind hi
    rw [exec_of_updateOf hu] at he
    cases he
    exact s.runUpdate_hand u
  · exact keep hl
  · rcases hc with ⟨i, hi, he⟩ | ⟨_, _, rfl⟩
    · exact (exec_command_frame (updateOf_decodeCommand hi) he).1.trans (keep hl)
    · exact keep hl

/-- Settles O58: no command but `RESET` and `POLL` writes a register of a channel other than `FREQ` and `KIND`. -/
theorem outputsChangeOnlyInAPass : Obligations.OutputsChangeOnlyInAPass := by
  intro s t hl h hword i
  rcases step_cases h with ⟨hl', _⟩ | ⟨_, _, rfl⟩ | ⟨_, c, rest, hp, _, hc⟩
  · exact absurd (hl.symm.trans hl') Bool.noConfusion
  · rfl
  · obtain ⟨hreset, hpoll⟩ := hword c (by simp [hp])
    rcases hc with ⟨j, hj, he⟩ | ⟨_, _, rfl⟩
    · obtain ⟨f', k', hch⟩ := exec_command_ch he (updateOf_decodeCommand hj)
        (fun hr => hreset (hr ▸ hj)) (fun hp => hpoll (hp ▸ hj)) i
      rw [State.outPort, hch]
      rfl
    · rfl

/-- Settles O20: `SETHZ` is a write of `FREQ` with the code as it stands. -/
theorem sethzStoresTheCode : Obligations.SethzStoresTheCode :=
  fun _ _ _ => writesTo_setFreq rfl

/-! ## The refusal of a pass -/

theorem State.illegalKind_some {s : State} {k : KindCode} (h : s.illegalKind = some k) :
    12 ≤ k.toNat ∧ ∃ i : ChIx, (s.ch i).kind = k := by
  have hcode := List.find?_some h
  have hmem := List.mem_of_find?_eq_some h
  simp only [List.mem_cons, List.not_mem_nil, or_false] at hmem
  refine ⟨of_decide_eq_true hcode, ?_⟩
  rcases hmem with hk | hk | hk | hk
  · exact ⟨0, hk.symm⟩
  · exact ⟨1, hk.symm⟩
  · exact ⟨2, hk.symm⟩
  · exact ⟨3, hk.symm⟩

theorem execPoll_refused {s : State} {k : KindCode} (hd : s.tickDue = true) (hk : s.illegalKind = some k) :
    execPoll s = .refused (.noSuchKind k) := by
  simp only [execPoll, hd, hk, if_true]

/-- Settles O17: a due pass looks for the first unknown kind and finds one; a `POLL` that is not due looks for
none. -/
theorem passRefusesUnknownKind : Obligations.PassRefusesUnknownKind := by
  intro s
  refine ⟨fun hdue ⟨i, hi⟩ => ?due, fun hlt => execPoll_not_due (s.tickDue_eq_false_iff.mpr hlt)⟩
  case due =>
    cases hk : s.illegalKind with
    | none => exact absurd (s.illegalKind_eq_none_iff.mp hk i) (by omega)
    | some k =>
      obtain ⟨hcode, hchan⟩ := State.illegalKind_some hk
      exact ⟨k, hcode, hchan, execPoll_refused (s.tickDue_iff.mpr hdue) hk⟩

end Sys2Proof.Machine
end

section
/-!
PROOFS. Draws (R150) and power-on (R45, R270): the range of a draw, the state after power-on and its invariant.
-/

namespace Sys2Proof.Machine

/-- Settles O48: the range is the draw's; an answer inside it is the number drawn. -/
theorem drawLiesInItsRange : Obligations.DrawLiesInItsRange := by
  intro r lo hi h
  refine ⟨draw_ge r h, draw_le r h, rfl, fun a rest ha h1 h2 => ?_⟩
  have hfixed := drawValue_fixed a rest r.taken h1 h2
  rwa [← ha] at hfixed

/-- Settles O54: at power-on every channel is at its reset values; the other registers are read off. -/
theorem powerOnState : Obligations.PowerOnState :=
  ⟨rfl, fun p => ⟨State.powerOn_ch p, rfl, rfl, rfl, rfl⟩⟩

/-- The reset values keep the invariant of a channel, whatever the ratio drawn (R45, R293). -/
theorem Channel.inv_reset (ratio : BitVec 2) : (Channel.reset ratio).Inv := by
  constructor <;> simp [Channel.reset]

theorem State.inv_powerOn (p : Params) : (State.powerOn p).Inv where
  channel i := by
    obtain ⟨ratio, h⟩ := State.powerOn_ch p i
    rw [h]
    exact Channel.inv_reset ratio
  tref_le := le_rfl
  rsLast_le i := by
    obtain ⟨ratio, h⟩ := State.powerOn_ch p i
    rw [h]
    exact Nat.zero_le _
  hand_le h := absurd h Bool.noConfusion

/-- Settles O55: the reset state is a power-on state. -/
theorem invariantHoldsAtReset : Obligations.InvariantHoldsAtReset :=
  ⟨State.inv_powerOn defaultParams, State.inv_powerOn⟩

end Sys2Proof.Machine
end

section
/-!
PROOFS. The default `FREQMAP` (R240, R241). Each listed entry is checked against the formula it rounds; that the
table rises strictly, and so its range, follows from the rounding.
-/

namespace Sys2Proof

/-- `F` is `3276.8 × 400^(k/1023)` rounded to nearest, through 1023rd powers (R240). -/
def RoundsEntry (k F : Nat) : Prop :=
  (10 * F - 5) ^ 1023 ≤ 32768 ^ 1023 * 400 ^ k ∧ 32768 ^ 1023 * 400 ^ k < (10 * F + 5) ^ 1023

/-- The listing, row by row: eight entries to a row, each of them rounded. -/
theorem freqMapRows_round : ∀ row ∈ freqMapRows.zipIdx, row.1.length = 8 ∧
    ∀ entry ∈ row.1.zipIdx, RoundsEntry (8 * row.2 + entry.2) entry.1 := by
  unfold RoundsEntry
  decide +kernel

theorem freqMapRows_length : freqMapRows.length = 128 := by decide +kernel

theorem freqMapEntry_rounds {k : Nat} (hk : k ≤ 1023) : RoundsEntry k (freqMapEntry k) := by
  have hrow : k / 8 < freqMapRows.length := by rw [freqMapRows_length]; omega
  obtain ⟨hlen, hround⟩ := freqMapRows_round (freqMapRows[k / 8], k / 8)
    (List.mem_zipIdx_iff_getElem?.mpr (List.getElem?_eq_getElem hrow))
  have hcol : k % 8 < freqMapRows[k / 8].length := by rw [hlen]; omega
  have hentry := hround (freqMapRows[k / 8][k % 8], k % 8)
    (List.mem_zipIdx_iff_getElem?.mpr (List.getElem?_eq_getElem hcol))
  rwa [Nat.div_add_mod, ← List.getD_eq_getElem _ 0 hcol, ← List.getD_eq_getElem _ [] hrow] at hentry

/-! ## Growth -/

/-- A bound on the ratio `a / b` by `p / q` bounds the ratio of the powers. -/
theorem pow_le_mul_pow_of_ratio {a b p q c n : Nat} (hq : 0 < q) (h : a * q ≤ p * b) (hs : p ^ n ≤ c * q ^ n) :
    a ^ n ≤ c * b ^ n := by
  refine Nat.le_of_mul_le_mul_right ?_ (pow_pos hq n)
  calc a ^ n * q ^ n = (a * q) ^ n := (mul_pow _ _ _).symm
    _ ≤ (p * b) ^ n := Nat.pow_le_pow_left h n
    _ = p ^ n * b ^ n := mul_pow _ _ _
    _ ≤ c * q ^ n * b ^ n := Nat.mul_le_mul_right _ hs
    _ = c * b ^ n * q ^ n := Nat.mul_right_comm _ _ _

/-- From 3277 on, the two bounds of an entry are less than one step of the formula apart. -/
theorem bounds_lt_step {F : Nat} (h : 3277 ≤ F) : (10 * F + 5) ^ 1023 ≤ 400 * (10 * F - 5) ^ 1023 :=
  pow_le_mul_pow_of_ratio (p := 6555) (q := 6553) (by decide) (by omega) (by decide +kernel)

/-- Entries that round neighbouring values of the formula differ (R241 (a)). -/
theorem RoundsEntry.lt_next {k F F' : Nat} (h : RoundsEntry k F) (h' : RoundsEntry (k + 1) F') (hF : 3277 ≤ F) :
    F < F' := by
  have hpow : (10 * F + 5) ^ 1023 < (10 * F' + 5) ^ 1023 :=
    calc (10 * F + 5) ^ 1023 ≤ 400 * (10 * F - 5) ^ 1023 := bounds_lt_step hF
      _ ≤ 400 * (32768 ^ 1023 * 400 ^ k) := Nat.mul_le_mul_left _ h.1
      _ = 32768 ^ 1023 * 400 ^ (k + 1) := by rw [pow_succ' 400 k, Nat.mul_left_comm]
      _ < (10 * F' + 5) ^ 1023 := h'.2
  have hlt := lt_of_pow_lt_pow_left₀ 1023 (Nat.zero_le _) hpow
  omega

theorem freqMapEntry_zero : freqMapEntry 0 = 3277 := rfl

theorem freqMapEntry_last : freqMapEntry 1023 = 1310720 := by decide +kernel

theorem freqMapEntry_ge {k : Nat} (hk : k ≤ 1023) : 3277 ≤ freqMapEntry k := by
  induction k with
  | zero => exact freqMapEntry_zero.ge
  | succ n ih =>
    have hn : 3277 ≤ freqMapEntry n := ih (by omega)
    exact hn.trans ((freqMapEntry_rounds (by omega)).lt_next (freqMapEntry_rounds hk) hn).le

theorem freqMapEntry_lt_succ {k : Nat} (hk : k < 1023) : freqMapEntry k < freqMapEntry (k + 1) :=
  (freqMapEntry_rounds hk.le).lt_next (freqMapEntry_rounds hk) (freqMapEntry_ge hk.le)

theorem freqMapEntry_le {k : Nat} (hk : k ≤ 1023) : freqMapEntry k ≤ 1310720 := by
  induction hk using Nat.decreasingInduction with
  | self => exact freqMapEntry_last.le
  | of_succ n hn ih => exact (freqMapEntry_lt_succ hn).le.trans ih

/-! ## The default table -/

/-- An entry fits the 24 bits of a code, so the table holds the number listed (R22, R241). -/
theorem defaultParams_entry {k : Nat} (hk : k ≤ 1023) : (defaultParams.freqMap.getD k 0).toNat = freqMapEntry k := by
  have hle := freqMapEntry_le hk
  rw [defaultParams_getD (by omega), BitVec.toNat_ofNat]
  omega

theorem defaultParams_admissible : defaultParams.Admissible where
  length_eq := by simp [defaultParams]
  increasing k hk := by
    rw [defaultParams_entry hk.le, defaultParams_entry hk]
    exact freqMapEntry_lt_succ hk
  first := BitVec.eq_of_toNat_eq ((defaultParams_entry (Nat.zero_le _)).trans freqMapEntry_zero)
  last := BitVec.eq_of_toNat_eq ((defaultParams_entry le_rfl).trans freqMapEntry_last)

/-- Settles O51: the two ends are listed; the rounding is checked entry by entry, and the growth follows from it. -/
theorem freqMapIsAdmissible : Obligations.FreqMapIsAdmissible :=
  ⟨freqMapEntry_zero, freqMapEntry_last, fun _ => freqMapEntry_lt_succ,
    fun _ hk => ⟨freqMapEntry_ge hk, freqMapEntry_le hk⟩, fun _ => freqMapEntry_rounds,
    fun _ => defaultParams_entry, defaultParams_admissible⟩

end Sys2Proof
end

section
/-!
PROOFS. Bounds on what the updates leave (R183, R202, R212, R214, R216, R220).
-/

namespace Sys2Proof.Machine

open Sys2Proof.Vocab

/-- The channel after an update that is handed over is what the update makes of it (R110). -/
theorem ch_of_exec_updateOf {i : Instr} {u : Update} (hu : updateOf i = some u) {s t : State}
    (h : exec i s = .next t) :
    t.ch s.hand.chan = (u (s.ch s.hand.chan) s.hand.modulator s.hand.tMs s.rand).1 := by
  rw [exec_of_updateOf hu] at h
  cases h
  exact s.runUpdate_ch_same u

/-! ## Random Slope -/

/-- The ramp points at its target: a rising one is not above it, a falling one not below (R183). -/
def Channel.PointsAtTarget (c : Channel) : Prop :=
  (0 < c.rsStep → c.rsCur ≤ c.rsTgt.toNat * 2 ^ 32) ∧ (c.rsStep < 0 → c.rsTgt.toNat * 2 ^ 32 ≤ c.rsCur)

theorem Channel.Inv.pointsAtTarget {c : Channel} (h : c.Inv) : c.PointsAtTarget := ⟨h.rs_rising, h.rs_falling⟩

theorem slopeStep_eq (c : Channel) (tgt : Byte) :
    slopeStep c tgt = ⌊((tgt.toNat : ℚ) * 2 ^ 32 - c.rsCur) * (baseFreq c / 2500)⌋ := by
  rw [slopeStep, Q_eq, fixVal_natCast, sampleRate_eq]
  congr 1
  ring

/-- A new step rises only towards a target that is higher (R181). -/
theorem le_target_of_slopeStep_pos {c : Channel} {tgt : Byte} (h : 0 < slopeStep c tgt) :
    c.rsCur ≤ tgt.toNat * 2 ^ 32 := by
  by_contra hlt
  have hneg : (tgt.toNat : ℚ) * 2 ^ 32 - c.rsCur ≤ 0 := by
    rw [sub_nonpos]
    exact_mod_cast (not_le.mp hlt).le
  have hfreq : 0 ≤ baseFreq c / 2500 := div_nonneg (baseFreq_nonneg c) (by norm_num)
  rw [slopeStep_eq, Int.floor_pos] at h
  linarith [mul_nonpos_of_nonpos_of_nonneg hneg hfreq]

/-- A new step falls only towards a target that is lower (R181). -/
theorem target_le_of_slopeStep_neg {c : Channel} {tgt : Byte} (h : slopeStep c tgt < 0) :
    tgt.toNat * 2 ^ 32 ≤ c.rsCur := by
  by_contra hlt
  have hpos : (0 : ℚ) ≤ (tgt.toNat : ℚ) * 2 ^ 32 - c.rsCur := by
    rw [sub_nonneg]
    exact_mod_cast (not_le.mp hlt).le
  have hfreq : 0 ≤ baseFreq c / 2500 := div_nonneg (baseFreq_nonneg c) (by norm_num)
  rw [slopeStep_eq, Int.floor_lt] at h
  push_cast at h
  linarith [mul_nonneg hpos hfreq]

theorem retarget_rsCur (c : Channel) (t : Time) (r : Rand) : (retarget c t r).1.rsCur = c.rsCur := by
  rcases retarget_cases c t r with ⟨_, h⟩ | ⟨_, _, _, h⟩ <;> rw [h]

/-- The ramp points at its target after the retarget step: a new step points at the new target (R181). -/
theorem retarget_pointsAtTarget {c : Channel} (hc : c.PointsAtTarget) (t : Time) (r : Rand) :
    (retarget c t r).1.PointsAtTarget := by
  rcases retarget_cases c t r with ⟨_, h⟩ | ⟨_, tgt, _, h⟩ <;> rw [h]
  · exact hc
  · exact ⟨le_target_of_slopeStep_pos, target_le_of_slopeStep_neg⟩

/-- The step of a ramp that points at its target stays on the way there. -/
theorem slopeValue_cases {c : Channel} (hc : c.PointsAtTarget) :
    (0 < c.rsStep ∧ c.rsCur ≤ slopeValue c ∧ slopeValue c ≤ c.rsTgt.toNat * 2 ^ 32) ∨
    (c.rsStep < 0 ∧ c.rsTgt.toNat * 2 ^ 32 ≤ slopeValue c ∧ slopeValue c ≤ c.rsCur) ∨
    (c.rsStep = 0 ∧ slopeValue c = c.rsCur) := by
  obtain ⟨hrise, hfall⟩ := hc
  simp only [slopeValue, gridScale_eq, Nat.cast_pow, Nat.cast_ofNat]
  rcases holdAtTarget_cases (c.rsCur + c.rsStep) c.rsStep (c.rsTgt.toNat * 2 ^ 32) with ⟨h, e⟩ | ⟨h, e⟩ | ⟨h, e⟩
  · have := hrise h
    exact .inl ⟨h, by omega, by omega⟩
  · have := hfall h
    exact .inr (.inl ⟨h, by omega, by omega⟩)
  · exact .inr (.inr ⟨h, by omega⟩)

theorem slopeValue_between {c : Channel} (hc : c.PointsAtTarget) :
    min c.rsCur (c.rsTgt.toNat * 2 ^ 32) ≤ slopeValue c ∧
      slopeValue c ≤ max c.rsCur (c.rsTgt.toNat * 2 ^ 32) := by
  rcases slopeValue_cases hc with h | h | h <;> omega

/-- Settles O37: the retarget step leaves `RS_CUR` and a ramp that points at its target. -/
theorem rslStaysBetweenStartAndTarget : Obligations.RslStaysBetweenStartAndTarget := by
  intro s t hinv h c c'
  have hch : c' = slopeAdvance (retarget c s.hand.tMs s.rand).1 := ch_of_exec_updateOf (i := .rsl) rfl h
  have hbetween := slopeValue_between (retarget_pointsAtTarget hinv.pointsAtTarget s.hand.tMs s.rand)
  rw [retarget_rsCur] at hbetween
  rw [hch]
  exact hbetween

/-! ## Gravity -/

/-- The pull ends inside the band of R202. -/
theorem gravityPull_band (c : Channel) :
    hz c / 10 ≤ (gravityPull c : ℚ) / 2 ^ 32 ∧ (gravityPull c : ℚ) / 2 ^ 32 ≤ 5 * hz c := by
  have hband := gravityBand_ordered c
  have hlo : Qc (hz c / 10) ≤ pulled c := Qc_eq (hz c / 10) ▸ le_max_left _ _
  have hhi : pulled c ≤ Q (5 * hz c) := by
    rw [Qc_eq, Q_eq] at hband
    rw [Q_eq]
    exact max_le hband (min_le_right _ _)
  have hnonneg : 0 ≤ pulled c := (Qc_nonneg (by rw [hz]; positivity)).trans hlo
  have hraw : ((gravityPull c : Nat) : ℚ) = (pulled c : ℚ) := by
    rw [gravityPull_eq_pulled, ← Int.cast_natCast, Int.toNat_of_nonneg hnonneg]
  rw [hraw]
  constructor
  · exact (le_div_iff₀ (by norm_num)).mpr ((Qc_le_iff _ _).mp hlo)
  · exact (div_le_iff₀ (by norm_num)).mpr ((le_Q_iff _ _).mp hhi)

/-- Settles O38: the update clamps `GV_CUR` into the band of its own `FREQ`, which it does not write. -/
theorem gravityStaysInItsBand : Obligations.GravityStaysInItsBand := by
  intro s t h c
  have hch : c = gravityAdvance (gravityRetarget (s.ch s.hand.chan) s.rand).1 :=
    ch_of_exec_updateOf (i := .grv) rfl h
  rw [hch]
  exact gravityPull_band _

/-! ## Frequency Modulation -/

theorem fmFreq_ge (b : ℚ) (m : Byte) : 1 / 100 ≤ fmFreq b m := by
  rw [fmFreq_eq]
  exact le_max_left _ _

theorem fmFreq_le (b : ℚ) (m : Byte) : fmFreq b m ≤ 25 := by
  rw [fmFreq_eq]
  exact max_le (by norm_num) (min_le_right _ _)

/-- Settles O39: an advance grows with its frequency, which is held between 1/100 and 25. -/
theorem fmNeverStandsStill : Obligations.FmNeverStandsStill := by
  intro s t h
  have hge := fmFreq_ge (baseFreq (s.ch s.hand.chan)) s.hand.modulator
  have hle := fmFreq_le (baseFreq (s.ch s.hand.chan)) s.hand.modulator
  rw [ch_of_exec_updateOf (i := .fm) rfl h]
  simp only [updateFm, advanceAndLookup]
  generalize fmFreq (baseFreq (s.ch s.hand.chan)) s.hand.modulator = f at hge hle ⊢
  rw [advance_eq _ (by linarith)]
  have hlo : 4398046 ≤ Q (inc f) := by
    rw [le_Q_iff, inc_eq]
    norm_num
    linarith
  have hhi : Q (inc f) < 10995116278 := by
    rw [Q_lt_iff, inc_eq]
    norm_num
    linarith
  omega

/-! ## TriSine, Amplitude Modulation, Pendulum -/

theorem one_le_q8 {x : ℚ} (h : 1 ≤ x) : 1 ≤ (q8 x).toNat := by
  have hfloor : 1 ≤ ⌊x + 1 / 2⌋ := Int.le_floor.mpr (by push_cast; linarith)
  have hq := q8_toNat x
  rw [clampInt_eq_max_min (by decide)] at hq
  omega

/-- The clamp at -127 keeps the sample of `TSN` from 0 (R214). -/
theorem one_le_trisineMix (tri sin : Byte) : 1 ≤ (trisineMix tri sin).toNat := by
  rw [trisineMix, cfg_trisineClamp]
  apply one_le_q8
  calc (1 : ℚ) = -127 + 128 := by norm_num
    _ ≤ _ := add_le_add_left (clamp_ge (by norm_num)) 128

/-- Settles O40: `OUT` is the mix of the two samples. -/
theorem triSineNeverEmitsZero : Obligations.TriSineNeverEmitsZero := by
  intro s t h
  rw [ch_of_exec_updateOf (i := .tsn) rfl h]
  exact one_le_trisineMix _ _

/-- A zero modulator is -1, which cancels the carrier (R216). -/
theorem amMix_zero (carrier : Byte) : amMix carrier 0 = 128 := by
  have hzero : bip carrier * (1 + cfg.amDepth * bip 0) = 0 := by norm_num [bip]
  obtain ⟨_, _, _, hmiddle, _⟩ := unbipInvertsBip
  rw [amMix, hzero, clamp_id (by norm_num) (by norm_num), hmiddle]

/-- Settles O41: whatever the carrier reads. -/
theorem zeroModulatorSilencesAm : Obligations.ZeroModulatorSilencesAm := by
  intro s t hm h
  rw [ch_of_exec_updateOf (i := .am) rfl h, hm]
  exact amMix_zero _

/-- The mean of two samples lies in the range of the clamp, so it is rounded and nothing else (R220). -/
theorem pendulumMix_toNat (a b : Byte) : (pendulumMix a b).toNat = (a.toNat + b.toNat + 1) / 2 := by
  have hmean : ((bip a + bip b) / 2 + 1) * (255 / 2) + 1 / 2 = ((a.toNat + b.toNat + 1 : Nat) : ℚ) / (2 : Nat) := by
    rw [bip, bip]
    push_cast
    ring
  have hfloor : ⌊((bip a + bip b) / 2 + 1) * (255 / 2) + 1 / 2⌋ = (((a.toNat + b.toNat + 1) / 2 : Nat) : Int) := by
    rw [hmean, Rat.floor_natCast_div_natCast]
    rfl
  have hclamp : clamp ((bip a + bip b) / 2) (-1) 1 = (bip a + bip b) / 2 :=
    clamp_id (by linarith [bip_ge a, bip_ge b]) (by linarith [bip_le a, bip_le b])
  have hq := q8_toNat (((bip a + bip b) / 2 + 1) * (255 / 2))
  rw [hfloor, clampInt_eq_max_min (by decide)] at hq
  rw [pendulumMix, hclamp, unbip]
  omega

/-- Settles O42: the two samples are read at the new phases. -/
theorem pendulumIsTheRoundedMean : Obligations.PendulumIsTheRoundedMean := by
  intro s t h c
  have hch : c = (updatePen (s.ch s.hand.chan) s.hand.modulator s.hand.tMs s.rand).1 :=
    ch_of_exec_updateOf (i := .pen) rfl h
  rw [hch, ← lookup_toNat, ← lookup_toNat]
  exact pendulumMix_toNat _ _

end Sys2Proof.Machine
end

section
/-!
PROOFS. How many draws an update takes (R284): each stage takes its answers from the front of the random source,
and the counts of the stages add up.
-/

namespace Sys2Proof.Machine

/-- From `r` to `r'` at least `lo` and at most `hi` draws were taken (R150). -/
def Rand.Draws (lo hi : Nat) (r r' : Rand) : Prop := ∃ n, lo ≤ n ∧ n ≤ hi ∧ r' = Rand.advance^[n] r

theorem Rand.iterate_advance (r : Rand) (n : Nat) :
    (Rand.advance^[n] r).taken = r.taken + n ∧ (Rand.advance^[n] r).answers = r.answers.drop n := by
  induction n with
  | zero => exact ⟨rfl, rfl⟩
  | succ n ih =>
    obtain ⟨htaken, hanswers⟩ := ih
    rw [Function.iterate_succ_apply', Rand.advance_taken, Rand.advance_answers, htaken, hanswers, List.tail_drop]
    exact ⟨rfl, rfl⟩

namespace Rand.Draws

theorem zero (r : Rand) : Rand.Draws 0 0 r r := ⟨0, le_rfl, le_rfl, rfl⟩

theorem one (r : Rand) : Rand.Draws 1 1 r r.advance := ⟨1, le_rfl, le_rfl, rfl⟩

theorem two (r : Rand) : Rand.Draws 2 2 r r.advance.advance := ⟨2, le_rfl, le_rfl, rfl⟩

theorem trans {lo hi lo' hi' : Nat} {r r' r'' : Rand} (h : Rand.Draws lo hi r r') (h' : Rand.Draws lo' hi' r' r'') :
    Rand.Draws (lo + lo') (hi + hi') r r'' := by
  obtain ⟨n, hlo, hhi, rfl⟩ := h
  obtain ⟨m, hlo', hhi', rfl⟩ := h'
  exact ⟨m + n, by omega, by omega, (Function.iterate_add_apply _ _ _ _).symm⟩

theorem mono {lo hi lo' hi' : Nat} {r r' : Rand} (h : Rand.Draws lo hi r r') (hlo : lo' ≤ lo) (hhi : hi ≤ hi') :
    Rand.Draws lo' hi' r r' := by
  obtain ⟨n, h1, h2, e⟩ := h
  exact ⟨n, hlo.trans h1, h2.trans hhi, e⟩

end Rand.Draws

/-! ## The stages -/

theorem retarget_draws (c : Channel) (t : Time) (r : Rand) : Rand.Draws 0 1 r (retarget c t r).2 := by
  rcases retarget_cases c t r with ⟨_, h⟩ | ⟨_, _, _, h⟩ <;> rw [h]
  · exact (Rand.Draws.zero r).mono le_rfl (by decide)
  · exact (Rand.Draws.one r).mono (by decide) le_rfl

theorem phaseKick_draws (pct hi : Int) (c : Channel) (r : Rand) : Rand.Draws 1 2 r (phaseKick pct hi c r).2 := by
  unfold phaseKick
  split
  · exact (Rand.Draws.two r).mono (by decide) le_rfl
  · exact (Rand.Draws.one r).mono le_rfl (by decide)

theorem wonkyHoldDraw_draws (r : Rand) : Rand.Draws 2 2 r (wonkyHoldDraw r).2 := by
  unfold wonkyHoldDraw
  split <;> exact .two r

theorem wonkyMultDraw_draws (b : ℚ) (r : Rand) : Rand.Draws 2 2 r (wonkyMultDraw b r).2 := by
  unfold wonkyMultDraw
  dsimp only
  split <;> exact .two r

theorem wonkyHold_draws (c : Channel) (r : Rand) : Rand.Draws 0 4 r (wonkyHold c r).2 := by
  unfold wonkyHold
  split
  · exact ((wonkyHoldDraw_draws r).trans (wonkyMultDraw_draws _ _)).mono (by decide) le_rfl
  · exact (Rand.Draws.zero r).mono le_rfl (by decide)

theorem wonkyNudge_draws (c : Channel) (r : Rand) : Rand.Draws 0 2 r (wonkyNudge c r).2 := by
  unfold wonkyNudge
  split
  · exact (phaseKick_draws _ _ c r).mono (by decide) le_rfl
  · exact (Rand.Draws.zero r).mono le_rfl (by decide)

theorem pauseChoice_draws (c : Channel) (r : Rand) : Rand.Draws 1 2 r (pauseChoice c r).2 := by
  unfold pauseChoice
  split
  · exact (Rand.Draws.two r).mono (by decide) le_rfl
  · exact (Rand.Draws.one r).mono le_rfl (by decide)

theorem stutter_draws (pdur : Nat) (r : Rand) : Rand.Draws 1 2 r (stutter pdur r).2 := by
  unfold stutter
  dsimp only
  split
  · exact (Rand.Draws.two r).mono (by decide) le_rfl
  · exact (Rand.Draws.one r).mono le_rfl (by decide)

theorem ratchetArm_draws (c : Channel) (r : Rand) : Rand.Draws 0 4 r (ratchetArm c r).2 := by
  unfold ratchetArm ratchetBurst ratchetPause
  split
  · dsimp only
    split
    · exact ((pauseChoice_draws c r).trans (stutter_draws _ _)).mono (by decide) le_rfl
    · exact (Rand.Draws.zero r).mono le_rfl (by decide)
  · split
    · exact (Rand.Draws.two r).mono (by decide) (by decide)
    · exact (Rand.Draws.zero r).mono le_rfl (by decide)

theorem gravityRetarget_draws (c : Channel) (r : Rand) : Rand.Draws 1 2 r (gravityRetarget c r).2 := by
  unfold gravityRetarget
  dsimp only
  split
  · exact (Rand.Draws.two r).mono (by decide) le_rfl
  · exact (Rand.Draws.one r).mono le_rfl (by decide)

/-! ## The updates -/

/-- The least and the greatest number of draws the update of a kind takes (R284). -/
def drawBounds : Instr → Nat × Nat
  | .rsl => (0, 1)
  | .wnk => (1, 8)
  | .rat => (0, 4)
  | .grv => (1, 2)
  | _ => (0, 0)

theorem drawBounds_eq_zero :
    ∀ i ∈ [Instr.tri, .sqr, .sin, .fm, .tsn, .am, .swm, .pen], drawBounds i = (0, 0) := by decide

theorem updateWnk_draws (c : Channel) (m : Byte) (t : Time) (r : Rand) : Rand.Draws 1 8 r (updateWnk c m t r).2 :=
  (phaseKick_draws _ _ c r).trans ((wonkyHold_draws _ _).trans (wonkyNudge_draws _ _))

/-- Every update takes a number of draws within the bounds of its kind (R284). -/
theorem updateOf_draws {i : Instr} {u : Update} (hu : updateOf i = some u) (c : Channel) (m : Byte) (t : Time)
    (r : Rand) : Rand.Draws (drawBounds i).1 (drawBounds i).2 r (u c m t r).2 := by
  cases i <;> cases hu
  case rsl => exact retarget_draws c t r
  case wnk => exact updateWnk_draws c m t r
  case rat => exact ratchetArm_draws c r
  case grv => exact gravityRetarget_draws c r
  all_goals exact .zero r

/-- Settles O43: the number of draws is within the bounds of the kind, and the source has moved on by it. -/
theorem updatesTakeTheirDraws : Obligations.UpdatesTakeTheirDraws := by
  intro i u s t hu h
  rw [exec_of_updateOf hu] at h
  cases h
  obtain ⟨n, hlo, hhi, hn⟩ := updateOf_draws hu (s.ch s.hand.chan) s.hand.modulator s.hand.tMs s.rand
  obtain ⟨htaken, hanswers⟩ := s.rand.iterate_advance n
  rw [s.runUpdate_rand u, hn]
  refine ⟨n, htaken, hanswers, fun hi => ?none, ?rsl, ?wnk, ?rat, ?grv⟩
  case none =>
    rw [drawBounds_eq_zero i hi] at hhi
    exact Nat.le_zero.mp hhi
  case rsl => rintro rfl; exact hhi
  case wnk => rintro rfl; exact ⟨hlo, hhi⟩
  case rat => rintro rfl; exact hhi
  case grv => rintro rfl; exact ⟨hlo, hhi⟩

end Sys2Proof.Machine
end

section
/-!
PROOFS. The pass (R106 to R110, R292): it is its four updates run one after the other, and what one channel's turn
depends on.
-/

namespace Sys2Proof.Machine

open Sys2Proof.Vocab

/-! ## The pass as four updates -/

/-- An update whose operands are handed over is that channel's update in a pass, the hand-over used up (R110). -/
theorem exec_handedOver {i : Instr} {u : Update} (hu : updateOf i = some u) (s : State) (ch : ChIx) (m : Byte)
    (t : Time) {s' : State} (hs : s' = s.update u ch m t) :
    exec i { s with hand := ⟨true, ch, m, t⟩ } = .next { s' with hand := ⟨false, ch, m, t⟩ } := by
  rw [hs]
  exact exec_of_updateOf hu _

theorem State.tMs_eq_ofNat (s : State) : s.tMs = BitVec.ofNat 64 (s.now.toNat / 1000) := by
  rw [← State.tMs_toNat, BitVec.ofNat_toNat, BitVec.setWidth_eq]

theorem State.beforeTurn_eq_afterTurns (s : State) (i : ChIx) : s.beforeTurn i = afterTurns s i.val := by
  fin_cases i <;> simp only [State.beforeTurn, afterTurns, State.snapshot, s.tMs_eq_ofNat] <;> rfl

theorem State.pass_eq_afterTurns (s : State) : s.pass = afterTurns s 4 := by
  rw [State.pass, s.tMs_eq_ofNat]
  rfl

/-- A channel's turn in a pass over `s`: its operands are of `s`, not of the state its turn finds (R107). -/
theorem afterTurns_succ (s : State) (ch : ChIx) :
    afterTurns s (ch.val + 1) =
      (afterTurns s ch.val).updateChannel ch (srcSample (s.ch (src ch))) (BitVec.ofNat 64 (s.now.toNat / 1000)) := by
  fin_cases ch <;> rfl

/-- A channel's turn is the update of its kind's instruction with these operands handed over (R110). -/
theorem exec_turn {s : State} {ch : ChIx} {i : Instr} (h : decodeKind (s.ch ch).kind = .ok i) {n : Nat}
    (hn : ch.val = n) :
    let m := srcSample (s.ch (src ch))
    let ms : Time := BitVec.ofNat 64 (s.now.toNat / 1000)
    exec i { afterTurns s n with hand := ⟨true, ch, m, ms⟩ } =
      .next { afterTurns s (n + 1) with hand := ⟨false, ch, m, ms⟩ } := by
  intro m ms
  subst hn
  obtain ⟨u, hu⟩ := updateOf_decodeKind h
  have hkind : kindUpdate ((afterTurns s ch.val).ch ch).kind = some u := by
    rw [← State.beforeTurn_eq_afterTurns, State.beforeTurn_ch, kindUpdate, h]
    exact hu
  have hturn : afterTurns s (ch.val + 1) = (afterTurns s ch.val).update u ch m ms := by
    rw [afterTurns_succ, State.updateChannel_of_some _ hkind]
  exact exec_handedOver hu (afterTurns s ch.val) ch m ms hturn

/-- Settles O18: each of the four turns of the pass is an update with its operands handed over. -/
theorem passIsFourUpdatesInOrder : Obligations.PassIsFourUpdatesInOrder := by
  intro s i0 i1 i2 i3 h0 h1 h2 h3 ms S
  refine ⟨_, _, _, _, exec_turn h0 (n := 0) rfl, exec_turn h1 (n := 1) rfl, exec_turn h2 (n := 2) rfl,
    exec_turn h3 (n := 3) rfl, ?_⟩
  rw [← s.pass_hand, s.pass_eq_afterTurns]

/-! ## What a turn depends on -/

/-- What a channel offers its neighbour is a function of three registers (R155, R292). -/
theorem srcSample_congr {c d : Channel} (hkind : c.kind = d.kind) (hphase : c.phase = d.phase)
    (hcur : c.rsCur = d.rsCur) : srcSample c = srcSample d := by
  simp only [srcSample, hkind, hphase, hcur]

/-! A write of `TREF` or `TICKED` changes nothing that a turn reads. -/

theorem State.with_ticked_ch (s : State) (b : Bool) (i : ChIx) : ({ s with ticked := b } : State).ch i = s.ch i := rfl
theorem State.with_tref_ch (s : State) (x : Time) (i : ChIx) : ({ s with tref := x } : State).ch i = s.ch i := rfl
theorem State.with_tref_tMs (s : State) (x : Time) : ({ s with tref := x } : State).tMs = s.tMs := rfl

theorem State.updateChannel_with_tref (s : State) (x : Time) (i : ChIx) (m : Byte) (t : Time) :
    ({ s with tref := x } : State).updateChannel i m t = { s.updateChannel i m t with tref := x } := by
  simp only [State.updateChannel, s.with_tref_ch]
  split <;> rfl

theorem afterTurns_with_tref (s : State) (x : Time) (n : Nat) :
    afterTurns { s with tref := x } n = { afterTurns s n with tref := x } := by
  induction n with
  | zero => rfl
  | succ n ih =>
    rw [afterTurns, ih, State.updateChannel_with_tref]
    rfl

/-- No turn reads `TREF`, so the move of `TREF` before the pass does not change the random source it meets. -/
theorem randAtTurn_with_tref (s : State) (x : Time) (i : ChIx) : randAtTurn { s with tref := x } i = randAtTurn s i := by
  rw [randAtTurn, afterTurns_with_tref, randAtTurn]

/-- A due `POLL` leaves in channel `i` what its kind's update makes of the channel, its source's sample, the time
and the random source at its turn (R106 to R110). -/
theorem execPoll_ch {s t : State} (h : execPoll s = .next t) (hd : s.tickDue = true) (i : ChIx) :
    ∃ u, kindUpdate (s.ch i).kind = some u ∧
      t.ch i = (u (s.ch i) (srcSample (s.ch (src i))) s.tMs (randAtTurn s i)).1 := by
  rcases execPoll_cases h with ⟨_, hk, rfl⟩ | ⟨hn, _⟩
  · obtain ⟨_, u, _, _, hu⟩ := decodeKind_legal (hk i)
    have hpass := State.pass_ch { s with tref := s.nextTref } i hu
    rw [State.snapshot, State.beforeTurn_eq_afterTurns, ← randAtTurn, randAtTurn_with_tref, s.with_tref_tMs,
      s.with_tref_ch, s.with_tref_ch] at hpass
    rw [s.with_tref_ch] at hu
    exact ⟨u, hu, (State.with_ticked_ch _ _ i).trans hpass⟩
  · exact absurd (hd.symm.trans hn) Bool.noConfusion

/-- The update of a kind without randomness does not look at the random source (R284). -/
theorem kindUpdate_ignores_rand {k : KindCode} {u : Update} (h : kindUpdate k = some u)
    (hk : k.toNat ∈ [0, 1, 2, 5, 7, 8, 9, 10]) (c : Channel) (m : Byte) (t : Time) (r r' : Rand) :
    (u c m t r).1 = (u c m t r').1 := by
  unfold kindUpdate decodeKind at h
  generalize k.toNat = n at h hk
  split at h
  · rename_i i hi
    split at hi <;> cases hi <;> cases h
    -- the arms of `decodeKind` at the codes 3, 4, 6 and 11, whose updates draw
    case h_4 | h_5 | h_7 | h_12 => exact absurd hk (by decide)
    all_goals rfl
  · cases h

/-- Settles O60: the two states have the same tick, and at the channel's turn the same operands; the random
source is either the same or not looked at. -/
theorem noChannelReadsBeyondItsNeighbour : Obligations.NoChannelReadsBeyondItsNeighbour := by
  intro a b a' b' i hch hnow htref hkind hphase hcur hrand ha hb
  have hdue : a.tickDue = b.tickDue := by
    rw [Bool.eq_iff_iff, a.tickDue_iff, b.tickDue_iff, State.elapsed, State.elapsed, hnow, htref]
  cases hd : a.tickDue with
  | true =>
    obtain ⟨u, hu, ha'⟩ := execPoll_ch ha hd i
    obtain ⟨v, hv, hb'⟩ := execPoll_ch hb (hdue ▸ hd) i
    obtain rfl : u = v := Option.some.inj (hu.symm.trans (hch ▸ hv))
    have htms : a.tMs = b.tMs := by rw [State.tMs, State.tMs, hnow]
    rw [ha', hb', srcSample_congr hkind hphase hcur, htms, ← hch]
    rcases hrand with hdet | hrand
    · exact kindUpdate_ignores_rand hu hdet _ _ _ _ _
    · rw [hrand]
  | false =>
    rcases execPoll_cases ha with ⟨hn, _⟩ | ⟨_, rfl⟩
    · exact absurd (hd.symm.trans hn) Bool.noConfusion
    rcases execPoll_cases hb with ⟨hn, _⟩ | ⟨_, rfl⟩
    · exact absurd ((hdue ▸ hd).symm.trans hn) Bool.noConfusion
    exact hch

end Sys2Proof.Machine
end

section
/-!
PROOFS. What one step can do to a channel (R110, R128): every step but `RESET` moves each channel by the update of
a kind or by the write of one register.
-/

namespace Sys2Proof.Machine

open Sys2Proof.Vocab

/-! ## How a step moves a channel -/

/-- How a step other than `RESET` can move the registers of a channel: by the update of a kind, with a time that is
in `T`, or by a write of `FREQ` or of a legal `KIND`. -/
inductive Channel.Move (T : Time → Prop) (c : Channel) : Channel → Prop
  /-- nothing is written -/
  | refl : Channel.Move T c c
  /-- the update of a kind (R110) -/
  | update {k : KindCode} {u : Update} (hu : kindUpdate k = some u) (m : Byte) {t : Time} (ht : T t) (r : Rand) :
      Channel.Move T c (u c m t r).1
  /-- `FREQ` is written (R121, R122) -/
  | freq (f : FreqCode) : Channel.Move T c { c with freq := f }
  /-- `KIND` is written (R124, R125) -/
  | kind {k : KindCode} (hk : k.toNat ≤ 11) : Channel.Move T c { c with kind := k }

theorem State.setFreq_move {T : Time → Prop} (s : State) (ch : ChIx) (f : FreqCode) (j : ChIx) :
    Channel.Move T (s.ch j) ((s.setFreq ch f).ch j) := by
  by_cases hj : j = ch
  · subst hj
    rw [State.setFreq_ch_same]
    exact .freq f
  · rw [State.setFreq_ch_ne _ hj]
    exact .refl

theorem State.setKind_move {T : Time → Prop} (s : State) (ch : ChIx) {k : KindCode} (hk : k.toNat ≤ 11) (j : ChIx) :
    Channel.Move T (s.ch j) ((s.setKind ch k).ch j) := by
  by_cases hj : j = ch
  · subst hj
    rw [State.setKind_ch_same]
    exact .kind hk
  · rw [State.setKind_ch_ne _ hj]
    exact .refl

theorem State.runUpdate_move {T : Time → Prop} (s : State) {k : KindCode} {u : Update} (hu : kindUpdate k = some u)
    (hT : T s.hand.tMs) (j : ChIx) : Channel.Move T (s.ch j) ((s.runUpdate u).ch j) := by
  by_cases hj : j = s.hand.chan
  · subst hj
    rw [State.runUpdate_ch_same]
    exact .update hu _ hT _
  · rw [State.runUpdate_ch_ne _ _ hj]
    exact .refl

theorem execPoll_move {T : Time → Prop} {s t : State} (h : execPoll s = .next t) (hT : T s.tMs) (j : ChIx) :
    Channel.Move T (s.ch j) (t.ch j) := by
  cases hd : s.tickDue with
  | true =>
    obtain ⟨u, hu, hch⟩ := execPoll_ch h hd j
    rw [hch]
    exact .update hu _ hT _
  | false =>
    rw [execPoll_not_due hd] at h
    cases h
    exact .refl

theorem kindAfter_le (d : Direction) (k : KindCode) : (kindAfter d k).toNat ≤ 11 := by
  cases d with
  | plusOne => rw [kindAfter_plusOne_toNat]; omega
  | minusOne => rw [kindAfter_minusOne_toNat]; omega

/-- A command other than `RESET` runs updates at the clock's milliseconds or writes one register (R105, R128). -/
theorem exec_command_move {T : Time → Prop} {i : Instr} {s t : State} (hu : updateOf i = none) (hr : i ≠ .reset)
    (h : exec i s = .next t) (hT : T s.tMs) (j : ChIx) : Channel.Move T (s.ch j) (t.ch j) := by
  cases i <;> simp only [updateOf, reduceCtorEq] at hu
  case nop => cases h; exact .refl
  case reset => exact absurd rfl hr
  case poll => exact execPoll_move h hT j
  case sethz ch code => cases h; exact s.setFreq_move ch code j
  case setn ch k => cases h; exact s.setFreq_move ch _ j
  case loadk ch v =>
    rcases Nat.lt_or_ge v.toNat 12 with hv | hv
    · rw [exec_loadk_of_le ch s (by omega)] at h
      cases h
      exact s.setKind_move ch (by rw [kindCode_toNat hv]; omega) j
    · rw [exec_loadk_of_ge ch s hv] at h
      cases h
      exact .refl
  case wadv d => cases h; exact s.setKind_move _ (kindAfter_le d _) j
  case selnx => cases h; exact .refl

/-- One step either is a `RESET` or moves every channel; `T` holds of the times an update can be given. -/
theorem step_move {T : Time → Prop} {s t : State} (h : step s = .next t)
    (hhand : s.hand.live = true → T s.hand.tMs) (hclock : T t.tMs) :
    (∃ c rest, s.hand.live = false ∧ s.port = c :: rest ∧ decodeCommand c.word = .ok .reset ∧
      t = (s.accept c rest).restart) ∨
    ∀ j, Channel.Move T (s.ch j) (t.ch j) := by
  rcases step_cases h with ⟨hl, i, hi, he⟩ | ⟨_, _, rfl⟩ | ⟨hl, c, rest, hp, _, hc⟩
  · obtain ⟨u, hu⟩ := updateOf_decodeKind hi
    rw [exec_of_updateOf hu] at he
    cases he
    have hkind : kindUpdate s.fetchKind = some u := by rw [kindUpdate, hi]; exact hu
    exact .inr (s.runUpdate_move hkind (hhand hl))
  · exact .inr fun _ => .refl
  · rcases hc with ⟨i, hi, he⟩ | ⟨_, _, rfl⟩
    · by_cases hr : i = .reset
      · subst hr
        rw [exec_reset] at he
        cases he
        exact .inl ⟨c, rest, hl, hp, hi, rfl⟩
      · have hcommand := updateOf_decodeCommand hi
        obtain ⟨_, _, hnow, _⟩ := exec_command_frame hcommand he
        have htms : (s.accept c rest).tMs = t.tMs := by rw [State.tMs, State.tMs, hnow]
        exact .inr (exec_command_move (s := s.accept c rest) hcommand hr he (htms ▸ hclock))
    · exact .inr fun _ => .refl

end Sys2Proof.Machine
end

section
/-!
PROOFS. The accumulators never decrease (R149, R286): no stage of an update lets one decrease.
-/

namespace Sys2Proof.Vocab

open Sys2Proof.Machine

theorem Grows.refl (c : Channel) : Grows c c := ⟨le_rfl, le_rfl, le_rfl, le_rfl, le_rfl, le_rfl, le_rfl⟩

/-- A stage that writes no accumulator but `PHASE`, and that one upward. -/
theorem Grows.of_phase {c c' : Channel} (hp : c.phase ≤ c'.phase)
    (h : c' = { c' with
      tsPhase := c.tsPhase, swBreath := c.swBreath, swSp0 := c.swSp0, swSp1 := c.swSp1, swSp2 := c.swSp2,
      pnPhase := c.pnPhase }) : Grows c c' := by
  rw [h]
  exact ⟨hp, le_rfl, le_rfl, le_rfl, le_rfl, le_rfl, le_rfl⟩

theorem Grows.trans {a b c : Channel} (h : Grows a b) (h' : Grows b c) : Grows a c := by
  obtain ⟨h1, h2, h3, h4, h5, h6, h7⟩ := h
  obtain ⟨h1', h2', h3', h4', h5', h6', h7'⟩ := h'
  exact ⟨h1.trans h1', h2.trans h2', h3.trans h3', h4.trans h4', h5.trans h5', h6.trans h6', h7.trans h7'⟩

end Sys2Proof.Vocab

namespace Sys2Proof.Machine

open Sys2Proof.Vocab

theorem advanceAndLookup_grows (t : Table) {f : ℚ} (hf : 0 ≤ f) (c : Channel) : Grows c (advanceAndLookup t f c) :=
  .of_phase (le_advance c.phase hf) rfl

theorem phaseKick_grows (pct : Int) {hi : Int} (h : 1 ≤ hi) (c : Channel) (r : Rand) :
    Grows c (phaseKick pct hi c r).1 := by
  rcases phaseKick_cases pct hi h c r with e | ⟨n, _, _, e⟩ <;> rw [e]
  · exact .refl c
  · exact .of_phase (Nat.le_add_right _ _) rfl

theorem wonkyHold_grows (c : Channel) (r : Rand) : Grows c (wonkyHold c r).1 := by
  rcases wonkyHold_cases c r with ⟨_, e⟩ | ⟨_, _, _, _, _, e⟩ <;> rw [e] <;> exact .of_phase le_rfl rfl

theorem wonkyNudge_grows (c : Channel) (r : Rand) : Grows c (wonkyNudge c r).1 := by
  unfold wonkyNudge
  split
  · exact phaseKick_grows _ (by simp) c r
  · exact .refl c

theorem wonkyJitter_grows (c : Channel) (r : Rand) : Grows c (wonkyJitter c r).1 := phaseKick_grows _ (by simp) c r

/-- The frequency of `WNK` is not negative. -/
theorem wonkyFreq_nonneg (c : Channel) : 0 ≤ baseFreq c * fixVal c.wkMult :=
  mul_nonneg (baseFreq_nonneg c) (fixVal_nonneg (Int.natCast_nonneg _))

theorem updateWnk_grows (c : Channel) (m : Byte) (t : Time) (r : Rand) : Grows c (updateWnk c m t r).1 :=
  (wonkyJitter_grows c r).trans <| (wonkyHold_grows _ _).trans <| (wonkyNudge_grows _ _).trans
    (advanceAndLookup_grows _ (wonkyFreq_nonneg _) _)

/-- The frequency of a burst of `RAT` is not negative. -/
theorem ratchetFreq_nonneg (c : Channel) : 0 ≤ baseFreq c * (c.rtMult : ℚ) :=
  mul_nonneg (baseFreq_nonneg c) (Nat.cast_nonneg _)

theorem ratchetArm_grows (c : Channel) (r : Rand) : Grows c (ratchetArm c r).1 := by
  unfold ratchetArm
  split
  · have hp := le_advance c.phase (ratchetFreq_nonneg c)
    rcases ratchetBurst_cases c r with ⟨_, e⟩ | ⟨_, _, _, _, _, _, _, e⟩ <;> rw [e] <;> exact .of_phase hp rfl
  · rcases ratchetPause_cases c r with ⟨_, e⟩ | ⟨_, _, _, _, _, _, _, e⟩ <;> rw [e] <;> exact .of_phase le_rfl rfl

theorem updateRat_grows (c : Channel) (m : Byte) (t : Time) (r : Rand) : Grows c (updateRat c m t r).1 :=
  (ratchetArm_grows c r).trans (c := (updateRat c m t r).1) (.of_phase le_rfl rfl)

theorem gravityRetarget_grows (c : Channel) (r : Rand) : Grows c (gravityRetarget c r).1 := by
  rcases gravityRetarget_cases c r with e | ⟨_, _, _, e⟩ <;> rw [e]
  · exact .refl c
  · exact .of_phase le_rfl rfl

theorem gravityAdvance_grows (c : Channel) : Grows c (gravityAdvance c) :=
  .of_phase (le_advance c.phase (fixVal_nonneg (Int.natCast_nonneg _))) rfl

theorem updateRsl_grows (c : Channel) (m : Byte) (t : Time) (r : Rand) : Grows c (updateRsl c m t r).1 := by
  rw [updateRsl]
  rcases retarget_cases c t r with ⟨_, e⟩ | ⟨_, _, _, e⟩ <;> rw [e] <;> exact .of_phase le_rfl rfl

theorem trisineRatio_nonneg (sel : BitVec 2) : 0 ≤ trisineRatio sel := by
  have hsel : sel.toNat < 4 := sel.isLt
  rw [trisineRatio, cfg_trisineRatios]
  interval_cases sel.toNat <;> norm_num

theorem updateTsn_grows (c : Channel) (m : Byte) (t : Time) (r : Rand) : Grows c (updateTsn c m t r).1 :=
  ⟨le_advance _ (baseFreq_nonneg c), le_advance _ (mul_nonneg (baseFreq_nonneg c) (trisineRatio_nonneg _)),
    le_rfl, le_rfl, le_rfl, le_rfl, le_rfl⟩

/-- The base frequency times a constant that is not negative. -/
theorem baseFreq_mul_nonneg (c : Channel) {q : ℚ} (hq : 0 ≤ q) : 0 ≤ baseFreq c * q :=
  mul_nonneg (baseFreq_nonneg c) hq

theorem updateSwm_grows (c : Channel) (m : Byte) (t : Time) (r : Rand) : Grows c (updateSwm c m t r).1 :=
  ⟨le_advance _ (baseFreq_nonneg c), le_rfl, le_advance _ (by simp), le_advance _ (baseFreq_mul_nonneg c (by simp)),
    le_advance _ (baseFreq_mul_nonneg c (by simp)), le_advance _ (baseFreq_mul_nonneg c (by simp)), le_rfl⟩

theorem updatePen_grows (c : Channel) (m : Byte) (t : Time) (r : Rand) : Grows c (updatePen c m t r).1 :=
  ⟨le_advance _ (baseFreq_nonneg c), le_rfl, le_rfl, le_rfl, le_rfl, le_rfl,
    le_advance _ (baseFreq_mul_nonneg c (by norm_num))⟩

/-- No update lets an accumulator decrease: every advance is at a frequency that is not negative (R286). -/
theorem kindUpdate_grows {k : KindCode} {u : Update} (h : kindUpdate k = some u) (c : Channel) (m : Byte) (t : Time)
    (r : Rand) : Grows c (u c m t r).1 := by
  rcases kindUpdate_cases h with rfl | rfl | rfl | rfl | rfl | rfl | rfl | rfl | rfl | rfl | rfl | rfl
  · exact advanceAndLookup_grows .tri (baseFreq_nonneg c) c
  · exact advanceAndLookup_grows .sqr (baseFreq_nonneg c) c
  · exact advanceAndLookup_grows .sin (baseFreq_nonneg c) c
  · exact updateRsl_grows c m t r
  · exact updateWnk_grows c m t r
  · exact advanceAndLookup_grows .tri ((by norm_num : (0 : ℚ) ≤ 1 / 100).trans (fmFreq_ge _ m)) c
  · exact updateRat_grows c m t r
  · exact updateTsn_grows c m t r
  · exact .of_phase (le_advance _ (baseFreq_nonneg c)) rfl
  · exact updateSwm_grows c m t r
  · exact updatePen_grows c m t r
  · exact (gravityRetarget_grows c r).trans (gravityAdvance_grows _)

theorem Channel.Move.grows {T : Time → Prop} {c c' : Channel} (h : Channel.Move T c c') : Grows c c' := by
  cases h with
  | refl => exact .refl c
  | update hu m _ r => exact kindUpdate_grows hu c m _ r
  | freq f => exact .of_phase le_rfl rfl
  | kind hk => exact .of_phase le_rfl rfl

/-- Settles O57: a step that is no `RESET` moves each channel by an update or by a write of no accumulator. -/
theorem accumulatorsNeverDecrease : Obligations.AccumulatorsNeverDecrease := by
  intro s t h hword i
  rcases step_move (T := fun _ => True) h (fun _ => trivial) trivial with ⟨c, rest, hl, hp, hreset, _⟩ | hmove
  · exact absurd hreset (hword c (by simp [hp]) hl)
  · exact (hmove i).grows

end Sys2Proof.Machine
end

section
/-!
PROOFS. Every step keeps the invariant (R183, R188, R196, R293, R43): each stage of an update keeps the invariant of
its channel, and no time the machine holds gets ahead of the clock.
-/

namespace Sys2Proof.Machine

open Sys2Proof.Vocab

/-! ## The stages keep the invariant of a channel -/

/-- The invariant does not speak of the accumulators, nor of `FREQ`, `OUT`, `RS_LAST`, `RT_ST` and `TS_SEL`. -/
theorem Channel.Inv.of_agree {c c' : Channel} (h : c.Inv)
    (e : c' = { c with
      freq := c'.freq, phase := c'.phase, out := c'.out, tsSel := c'.tsSel, tsPhase := c'.tsPhase
      swBreath := c'.swBreath, swSp0 := c'.swSp0, swSp1 := c'.swSp1, swSp2 := c'.swSp2, pnPhase := c'.pnPhase
      rsLast := c'.rsLast, rtSt := c'.rtSt }) : c'.Inv := by
  rw [e]
  exact { h with }

/-- A new step is less than 27: at most 255 away, at less than 256 Hz (R43, R181). -/
theorem slopeStep_abs_lt {c : Channel} (h : c.rsCur ≤ 255 * 2 ^ 32) (tgt : Byte) :
    |slopeStep c tgt| < 27 * 2 ^ 32 := by
  have hcur : (c.rsCur : ℚ) ≤ 255 * 2 ^ 32 := by exact_mod_cast h
  have htgt : (tgt.toNat : ℚ) ≤ 255 := by exact_mod_cast Nat.le_of_lt_succ tgt.isLt
  have hcur0 : (0 : ℚ) ≤ c.rsCur := Nat.cast_nonneg _
  have htgt0 : (0 : ℚ) ≤ tgt.toNat := Nat.cast_nonneg _
  have hf0 := baseFreq_nonneg c
  have hf := baseFreq_lt c
  have hdist : |(tgt.toNat : ℚ) * 2 ^ 32 - c.rsCur| ≤ 255 * 2 ^ 32 := by
    rw [abs_le]
    constructor <;> linarith
  have hrate : |baseFreq c / 2500| ≤ 256 / 2500 := by
    rw [abs_of_nonneg (by positivity)]
    linarith
  have hprod : |((tgt.toNat : ℚ) * 2 ^ 32 - c.rsCur) * (baseFreq c / 2500)| ≤ 255 * 2 ^ 32 * (256 / 2500) := by
    rw [abs_mul]
    exact mul_le_mul hdist hrate (abs_nonneg _) (by norm_num)
  obtain ⟨hlo, hhi⟩ := abs_le.mp hprod
  rw [slopeStep_eq, abs_lt, ← Int.add_one_le_iff, Int.le_floor, Int.floor_lt]
  push_cast
  constructor <;> linarith

theorem retarget_inv {c : Channel} (h : c.Inv) (t : Time) (r : Rand) : (retarget c t r).1.Inv := by
  obtain ⟨hrise, hfall⟩ := retarget_pointsAtTarget h.pointsAtTarget t r
  rcases retarget_cases c t r with ⟨_, e⟩ | ⟨_, tgt, _, e⟩ <;> rw [e] at hrise hfall ⊢
  · exact h
  · exact { h with rs_rising := hrise, rs_falling := hfall, rsStep_lt := slopeStep_abs_lt h.rsCur_le tgt }

theorem slopeAdvance_inv {c : Channel} (h : c.Inv) : (slopeAdvance c).Inv := by
  have htgt : c.rsTgt.toNat < 256 := c.rsTgt.isLt
  have hcur := h.rsCur_le
  have hcases := slopeValue_cases h.pointsAtTarget
  have hle : slopeValue c ≤ 255 * 2 ^ 32 := by omega
  have hrise : 0 < c.rsStep → slopeValue c ≤ c.rsTgt.toNat * 2 ^ 32 := by omega
  have hfall : c.rsStep < 0 → c.rsTgt.toNat * 2 ^ 32 ≤ slopeValue c := by omega
  exact { h with rsCur_le := hle, rs_rising := hrise, rs_falling := hfall }

theorem phaseKick_inv {c : Channel} (h : c.Inv) (pct : Int) {hi : Int} (hhi : 1 ≤ hi) (r : Rand) :
    (phaseKick pct hi c r).1.Inv := by
  rcases phaseKick_cases pct hi hhi c r with e | ⟨_, _, _, e⟩ <;> rw [e]
  · exact h
  · exact h.of_agree rfl

theorem wonkyJitter_inv {c : Channel} (h : c.Inv) (r : Rand) : (wonkyJitter c r).1.Inv :=
  phaseKick_inv h _ (by simp) r

theorem wonkyNudge_inv {c : Channel} (h : c.Inv) (r : Rand) : (wonkyNudge c r).1.Inv := by
  unfold wonkyNudge
  split
  · exact phaseKick_inv h _ (by simp) r
  · exact h

theorem wonkyHold_inv {c : Channel} (h : c.Inv) (r : Rand) : (wonkyHold c r).1.Inv := by
  rcases wonkyHold_cases c r with ⟨hlt, e⟩ | ⟨_, d, x, hd1, hd2, e⟩ <;> rw [e]
  · exact { h with wkCnt_lt := hlt }
  · have hmult : clampQ x (6 / 10) (16 / 10) = max 2576980378 (min ⌊x * 2 ^ 32⌋ 6871947673) := clampQ_wkMult x
    exact { h with
      wkCnt_lt := by dsimp only; omega
      wkDur_ge := hd1
      wkDur_le := hd2
      wkMult_ge := by dsimp only; omega
      wkMult_le := by dsimp only; omega }

theorem ratchetBurst_inv {c : Channel} (h : c.Inv) (r : Rand) : (ratchetBurst c r).1.Inv := by
  have hb1 := h.rtBdur_ge
  have hm1 := h.rtMaxb_ge
  have hm2 := h.rtMaxb_le
  rcases ratchetBurst_cases c r with ⟨hlt, e⟩ | ⟨_, pdur, bcount, maxb, hp1, hp2, hmaxb, e⟩ <;> rw [e]
  · exact { h with rtCnt_lt := hlt }
  · exact { h with
      rtCnt_lt := by dsimp only; omega
      rtPcnt_lt := by dsimp only; omega
      rtBcount_lt := by dsimp only; omega
      rtPdur_ge := hp1
      rtPdur_le := hp2
      rtMaxb_ge := by dsimp only; omega
      rtMaxb_le := by dsimp only; omega }

theorem ratchetPause_inv {c : Channel} (h : c.Inv) (r : Rand) : (ratchetPause c r).1.Inv := by
  have hp1 := h.rtPdur_ge
  rcases ratchetPause_cases c r with ⟨hlt, e⟩ | ⟨_, bdur, mult, hb1, hb2, hm1, hm2, e⟩ <;> rw [e]
  · exact { h with rtPcnt_lt := hlt }
  · exact { h with
      rtCnt_lt := by dsimp only; omega
      rtPcnt_lt := by dsimp only; omega
      rtBdur_ge := hb1
      rtBdur_le := hb2
      rtMult_ge := hm1
      rtMult_le := hm2 }

theorem ratchetArm_inv {c : Channel} (h : c.Inv) (r : Rand) : (ratchetArm c r).1.Inv := by
  unfold ratchetArm
  split
  · exact ratchetBurst_inv h r
  · exact ratchetPause_inv h r

/-- A frequency of at most 5 times the base frequency fits the width of `GV_CUR` and `GV_TGT` (R43). -/
theorem gravityRaw_le {c : Channel} {x : ℚ} (h : x ≤ 5 * hz c) : (Q x).toNat ≤ 5 * 256 * 2 ^ 32 := by
  have hf := baseFreq_lt c
  rw [baseFreq_eq_hz] at hf
  have hQ : Q x < 5 * 256 * 2 ^ 32 := by
    rw [Q_lt_iff]
    push_cast
    linarith
  omega

theorem gravityRetarget_inv {c : Channel} (h : c.Inv) (r : Rand) : (gravityRetarget c r).1.Inv := by
  rcases gravityRetarget_cases c r with e | ⟨mm, _, hmm, e⟩ <;> rw [e]
  · exact h
  · have hle : baseFreq c * mm / 100 ≤ 5 * hz c := by
      have hmm' : (mm : ℚ) ≤ 500 := by exact_mod_cast hmm
      have hprod := mul_le_mul_of_nonneg_left hmm' (baseFreq_nonneg c)
      rw [← baseFreq_eq_hz]
      linarith
    exact { h with gvTgt_le := gravityRaw_le hle }

theorem gravityAdvance_inv {c : Channel} (h : c.Inv) : (gravityAdvance c).Inv := by
  obtain ⟨_, hband⟩ := gravityPull_band c
  have hraw := gravityRaw_le hband
  rw [← fixVal_natCast, Q_fixVal, Int.toNat_natCast] at hraw
  exact { h with gvCur_le := hraw }

/-! ## The updates and the moves -/

theorem updateRsl_inv {c : Channel} (h : c.Inv) (m : Byte) (t : Time) (r : Rand) : (updateRsl c m t r).1.Inv :=
  slopeAdvance_inv (retarget_inv h t r)

theorem updateWnk_inv {c : Channel} (h : c.Inv) (m : Byte) (t : Time) (r : Rand) : (updateWnk c m t r).1.Inv :=
  (wonkyNudge_inv (wonkyHold_inv (wonkyJitter_inv h r) _) _).of_agree rfl

theorem updateRat_inv {c : Channel} (h : c.Inv) (m : Byte) (t : Time) (r : Rand) : (updateRat c m t r).1.Inv :=
  (ratchetArm_inv h r).of_agree rfl

theorem updateGrv_inv {c : Channel} (h : c.Inv) (m : Byte) (t : Time) (r : Rand) : (updateGrv c m t r).1.Inv :=
  gravityAdvance_inv (gravityRetarget_inv h r)

/-- The update of a kind keeps the invariant of its channel: the kinds without a stateful file write nothing that
it speaks of. -/
theorem kindUpdate_inv {k : KindCode} {u : Update} (hu : kindUpdate k = some u) {c : Channel} (h : c.Inv) (m : Byte)
    (t : Time) (r : Rand) : (u c m t r).1.Inv := by
  rcases kindUpdate_cases hu with rfl | rfl | rfl | rfl | rfl | rfl | rfl | rfl | rfl | rfl | rfl | rfl
  · exact h.of_agree rfl
  · exact h.of_agree rfl
  · exact h.of_agree rfl
  · exact updateRsl_inv h m t r
  · exact updateWnk_inv h m t r
  · exact h.of_agree rfl
  · exact updateRat_inv h m t r
  · exact h.of_agree rfl
  · exact h.of_agree rfl
  · exact h.of_agree rfl
  · exact h.of_agree rfl
  · exact updateGrv_inv h m t r

theorem Channel.Move.inv {T : Time → Prop} {c c' : Channel} (hm : Channel.Move T c c') (h : c.Inv) : c'.Inv := by
  cases hm with
  | refl => exact h
  | update hu m _ r => exact kindUpdate_inv hu h m _ r
  | freq f => exact h.of_agree rfl
  | kind hk => exact { h with kind_legal := hk }

/-! ## Times -/

/-- No kind but Random Slope writes `RS_LAST`. -/
theorem rsLast_of_movesOnly {k : Nat} (hk : k ≠ 3) {c c' : Channel} (h : MovesOnly k c c') : c'.rsLast = c.rsLast := by
  unfold MovesOnly at h
  split at h
  case h_1 => exact absurd rfl hk
  all_goals rw [h]

/-- An update leaves `RS_LAST` or sets it to the time it was given (R181). -/
theorem kindUpdate_rsLast {k : KindCode} {u : Update} (hu : kindUpdate k = some u) (c : Channel) (m : Byte) (t : Time)
    (r : Rand) : (u c m t r).1.rsLast = c.rsLast ∨ (u c m t r).1.rsLast = t := by
  by_cases hk : k = 3
  · subst hk
    obtain rfl : updateRsl = u := Option.some.inj hu
    rw [updateRsl]
    rcases retarget_cases c t r with ⟨_, e⟩ | ⟨_, _, _, e⟩ <;> rw [e]
    · exact .inl rfl
    · exact .inr rfl
  · exact .inl (rsLast_of_movesOnly (fun h3 => hk (BitVec.eq_of_toNat_eq h3)) (kindUpdate_movesOnly hu c m t r))

theorem Channel.Move.rsLast {T : Time → Prop} {c c' : Channel} (hm : Channel.Move T c c') (h : T c.rsLast) :
    T c'.rsLast := by
  cases hm with
  | refl => exact h
  | @update _ u hu m t ht r =>
    rcases kindUpdate_rsLast hu c m t r with e | e <;> rw [e]
    · exact h
    · exact ht
  | freq f => exact h
  | kind hk => exact h

/-- A command leaves `TREF` at or below the clock (R102, R103, R271). -/
theorem exec_command_tref_le {i : Instr} {s t : State} (hu : updateOf i = none) (h : exec i s = .next t)
    (hle : s.tref.toNat ≤ s.now.toNat) : t.tref.toNat ≤ t.now.toNat := by
  cases i <;> simp only [updateOf, reduceCtorEq] at hu
  case poll =>
    rcases execPoll_cases h with ⟨_, _, rfl⟩ | ⟨_, rfl⟩
    · simpa using s.nextTref_le hle
    · exact hle
  case reset => cases h; exact le_rfl
  case loadk ch v =>
    rcases Nat.lt_or_ge v.toNat 12 with hv | hv
    · rw [exec_loadk_of_le ch s (by omega)] at h
      cases h
      exact hle
    · rw [exec_loadk_of_ge ch s hv] at h
      cases h
      exact hle
  all_goals
    cases h
    exact hle

/-- A step keeps `TREF` at or below the clock, which it does not turn back, and keeps the parameters (R12, R104). -/
theorem step_clock {s t : State} (h : step s = .next t) (hle : s.tref.toNat ≤ s.now.toNat) :
    t.tref.toNat ≤ t.now.toNat ∧ s.now.toNat ≤ t.now.toNat ∧ t.params = s.params := by
  rcases step_cases h with ⟨_, i, hi, he⟩ | ⟨_, _, rfl⟩ | ⟨_, c, rest, _, hc, ⟨i, hi, he⟩ | ⟨_, _, rfl⟩⟩
  · obtain ⟨u, hu⟩ := updateOf_decodeKind hi
    rw [exec_of_updateOf hu] at he
    cases he
    exact ⟨hle, le_rfl, rfl⟩
  · exact ⟨hle, le_rfl, rfl⟩
  · have hcommand := updateOf_decodeCommand hi
    obtain ⟨_, _, hnow, hparams⟩ := exec_command_frame hcommand he
    refine ⟨exec_command_tref_le hcommand he (hle.trans hc), ?_, hparams⟩
    rw [hnow]
    exact hc
  · exact ⟨hle.trans hc, hc, rfl⟩

/-- After start-up every channel keeps the invariant and holds no time but 0 (R45). -/
theorem State.restart_ch_inv (s : State) (i : ChIx) : (s.restart.ch i).Inv ∧ (s.restart.ch i).rsLast = 0 := by
  rw [s.restart_ch_eq_reset]
  exact ⟨Channel.inv_reset _, rfl⟩

/-- Settles O56: a step moves every channel with a time that is not ahead of the clock, or starts them anew; it
leaves no update handed over. -/
theorem everyStepKeepsTheInvariant : Obligations.EveryStepKeepsTheInvariant := by
  intro s t hinv h
  obtain ⟨htref, hnow, hparams⟩ := step_clock h hinv.tref_le
  have hdiv : s.now.toNat / 1000 ≤ t.now.toNat / 1000 := Nat.div_le_div_right hnow
  have hchannel : ∀ i, (t.ch i).Inv ∧ (t.ch i).rsLast.toNat ≤ t.now.toNat / 1000 := by
    intro i
    rcases step_move (T := fun tm => tm.toNat ≤ t.now.toNat / 1000) h (fun hl => (hinv.hand_le hl).trans hdiv)
      t.tMs_toNat.le with ⟨c, rest, _, _, _, rfl⟩ | hmove
    · obtain ⟨hreset, hlast⟩ := State.restart_ch_inv (s.accept c rest) i
      exact ⟨hreset, by rw [hlast]; exact Nat.zero_le _⟩
    · exact ⟨(hmove i).inv (hinv.channel i), (hmove i).rsLast ((hinv.rsLast_le i).trans hdiv)⟩
  have hlive : t.hand.live = false := by rw [stepClearsTheHandover s t h]
  refine ⟨⟨fun i => (hchannel i).1, htref, fun i => (hchannel i).2, fun hl => ?_⟩, hparams⟩
  exact absurd (hlive.symm.trans hl) Bool.noConfusion

end Sys2Proof.Machine
end

section
/-!
PROOFS. 40-bit accumulators run like unbounded ones (R282): every stage of an update, every instruction and every
step leaves, once cut, the same from a state and from the state cut.
-/

namespace Sys2Proof.Machine

open Sys2Proof.Vocab

/-! ## The registers of a cut channel -/

@[simp] theorem Channel.wrap_kind (c : Channel) : c.wrap.kind = c.kind := rfl
@[simp] theorem Channel.wrap_freq (c : Channel) : c.wrap.freq = c.freq := rfl
@[simp] theorem Channel.wrap_rsCur (c : Channel) : c.wrap.rsCur = c.rsCur := rfl
@[simp] theorem Channel.wrap_rsTgt (c : Channel) : c.wrap.rsTgt = c.rsTgt := rfl
@[simp] theorem Channel.wrap_rsStep (c : Channel) : c.wrap.rsStep = c.rsStep := rfl
@[simp] theorem Channel.wrap_rsLast (c : Channel) : c.wrap.rsLast = c.rsLast := rfl
@[simp] theorem Channel.wrap_wkCnt (c : Channel) : c.wrap.wkCnt = c.wkCnt := rfl
@[simp] theorem Channel.wrap_wkDur (c : Channel) : c.wrap.wkDur = c.wkDur := rfl
@[simp] theorem Channel.wrap_wkMult (c : Channel) : c.wrap.wkMult = c.wkMult := rfl
@[simp] theorem Channel.wrap_rtSt (c : Channel) : c.wrap.rtSt = c.rtSt := rfl
@[simp] theorem Channel.wrap_rtCnt (c : Channel) : c.wrap.rtCnt = c.rtCnt := rfl
@[simp] theorem Channel.wrap_rtBdur (c : Channel) : c.wrap.rtBdur = c.rtBdur := rfl
@[simp] theorem Channel.wrap_rtPcnt (c : Channel) : c.wrap.rtPcnt = c.rtPcnt := rfl
@[simp] theorem Channel.wrap_rtPdur (c : Channel) : c.wrap.rtPdur = c.rtPdur := rfl
@[simp] theorem Channel.wrap_rtBcount (c : Channel) : c.wrap.rtBcount = c.rtBcount := rfl
@[simp] theorem Channel.wrap_rtMaxb (c : Channel) : c.wrap.rtMaxb = c.rtMaxb := rfl
@[simp] theorem Channel.wrap_rtMult (c : Channel) : c.wrap.rtMult = c.rtMult := rfl
@[simp] theorem Channel.wrap_tsSel (c : Channel) : c.wrap.tsSel = c.tsSel := rfl
@[simp] theorem Channel.wrap_gvCur (c : Channel) : c.wrap.gvCur = c.gvCur := rfl
@[simp] theorem Channel.wrap_gvTgt (c : Channel) : c.wrap.gvTgt = c.gvTgt := rfl
@[simp] theorem Channel.wrap_phase (c : Channel) : c.wrap.phase = wrapPhase c.phase := rfl
@[simp] theorem Channel.wrap_tsPhase (c : Channel) : c.wrap.tsPhase = wrapPhase c.tsPhase := rfl
@[simp] theorem Channel.wrap_swBreath (c : Channel) : c.wrap.swBreath = wrapPhase c.swBreath := rfl
@[simp] theorem Channel.wrap_swSp0 (c : Channel) : c.wrap.swSp0 = wrapPhase c.swSp0 := rfl
@[simp] theorem Channel.wrap_swSp1 (c : Channel) : c.wrap.swSp1 = wrapPhase c.swSp1 := rfl
@[simp] theorem Channel.wrap_swSp2 (c : Channel) : c.wrap.swSp2 = wrapPhase c.swSp2 := rfl
@[simp] theorem Channel.wrap_pnPhase (c : Channel) : c.wrap.pnPhase = wrapPhase c.pnPhase := rfl

@[simp] theorem Channel.wrap_wrap (c : Channel) : c.wrap.wrap = c.wrap := by
  simp only [Channel.wrap, wrapPhase_idem]

/-- Writing `PHASE` in a cut channel, for values that agree once cut. -/
theorem Channel.wrap_write_phase (c : Channel) {p q : Nat} (h : wrapPhase p = wrapPhase q) :
    ({ c.wrap with phase := p } : Channel).wrap = ({ c with phase := q } : Channel).wrap :=
  calc ({ c.wrap with phase := p } : Channel).wrap = { c.wrap.wrap with phase := wrapPhase p } := rfl
    _ = { c.wrap with phase := wrapPhase q } := by rw [Channel.wrap_wrap, h]
    _ = ({ c with phase := q } : Channel).wrap := rfl

@[simp] theorem baseFreq_wrap (c : Channel) : baseFreq c.wrap = baseFreq c := by rw [baseFreq, Channel.wrap_freq, baseFreq]

/-- A sample read at an advanced phase does not depend on the bits cut off (R148, R282). -/
theorem lookup_advance_wrapPhase (t : Table) (p : Nat) {f : ℚ} (hf : 0 ≤ f) :
    lookup t (advance (wrapPhase p) f) = lookup t (advance p f) := by
  rw [← lookup_wrapPhase, wrapPhase_advance p hf, lookup_wrapPhase]

/-- Whole index units are added to a cut phase as to the full one (R186). -/
theorem wrapPhase_add_units (c : Channel) (n : Nat) :
    wrapPhase (c.wrap.phase + n * 2 ^ 32) = wrapPhase (c.phase + n * 2 ^ 32) := by
  rw [Channel.wrap_phase]
  exact Nat.mod_add_mod _ _ _

theorem srcSample_wrap (c : Channel) : srcSample c.wrap = srcSample c := by
  simp only [srcSample, Channel.wrap_kind, Channel.wrap_phase, Channel.wrap_rsCur, lookup_wrapPhase]

/-! ## Stages of an update -/

/-- The results of a stage, the accumulators cut. -/
def cutPhases (x : Channel × Rand) : Channel × Rand := (x.1.wrap, x.2)

/-- A stage run on cut accumulators leaves, once cut, what it leaves run on the full ones (R282). -/
def RunsCut (f : Channel → Rand → Channel × Rand) : Prop := ∀ c r, cutPhases (f c.wrap r) = cutPhases (f c r)

theorem RunsCut.congr {f : Channel → Rand → Channel × Rand} (hf : RunsCut f) {x y : Channel × Rand}
    (h : cutPhases x = cutPhases y) : cutPhases (f x.1 x.2) = cutPhases (f y.1 y.2) := by
  obtain ⟨hchannel, hrand⟩ := Prod.mk.inj h
  rw [← hf x.1, ← hf y.1, hchannel, hrand]

/-- Two stages one after the other. -/
theorem RunsCut.comp {f g : Channel → Rand → Channel × Rand} (hf : RunsCut f) (hg : RunsCut g) :
    RunsCut fun c r => g (f c r).1 (f c r).2 :=
  fun c r => hg.congr (hf c r)

/-- A stage that neither reads nor writes an accumulator. -/
theorem RunsCut.of_commutes {f : Channel → Rand → Channel × Rand} (h : ∀ c r, f c.wrap r = cutPhases (f c r)) :
    RunsCut f := by
  intro c r
  rw [h, cutPhases, cutPhases, Channel.wrap_wrap]

/-- The advance at a frequency that is not negative and is not read off an accumulator. -/
theorem runsCut_advanceAndLookup (t : Table) {f : Channel → ℚ} (hwrap : ∀ c, f c.wrap = f c) (hf : ∀ c, 0 ≤ f c) :
    RunsCut fun c r => (advanceAndLookup t (f c) c, r) := by
  intro c r
  simp only [advanceAndLookup, hwrap, Channel.wrap_phase, lookup_advance_wrapPhase t _ (hf c)]
  simp only [cutPhases, Channel.wrap, wrapPhase_advance _ (hf c), wrapPhase_idem]

theorem retargetDue_wrap (c : Channel) (t : Time) : retargetDue c.wrap t = retargetDue c t := by
  rw [Bool.eq_iff_iff, retargetDue_iff, retargetDue_iff, Channel.wrap_rsLast, Channel.wrap_freq]

theorem slopeStep_wrap (c : Channel) (tgt : Byte) : slopeStep c.wrap tgt = slopeStep c tgt := by
  simp only [slopeStep, Channel.wrap_rsCur, baseFreq_wrap]

theorem slopeValue_wrap (c : Channel) : slopeValue c.wrap = slopeValue c := by
  simp only [slopeValue, Channel.wrap_rsCur, Channel.wrap_rsStep, Channel.wrap_rsTgt]

theorem gravityPull_wrap (c : Channel) : gravityPull c.wrap = gravityPull c := by
  simp only [gravityPull, Channel.wrap_gvCur, Channel.wrap_gvTgt, baseFreq_wrap]

theorem burstOver_wrap (c : Channel) : burstOver c.wrap = burstOver c := by
  rw [Bool.eq_iff_iff, burstOver_iff, burstOver_iff, Channel.wrap_rtBdur, Channel.wrap_rtCnt]

theorem pauseOver_wrap (c : Channel) : pauseOver c.wrap = pauseOver c := by
  rw [Bool.eq_iff_iff, pauseOver_iff, pauseOver_iff, Channel.wrap_rtPdur, Channel.wrap_rtPcnt]

theorem lastBurst_wrap (c : Channel) : lastBurst c.wrap = lastBurst c := by
  rw [Bool.eq_iff_iff, lastBurst_iff, lastBurst_iff, Channel.wrap_rtMaxb, Channel.wrap_rtBcount]

theorem pauseChoice_wrap (c : Channel) (r : Rand) : pauseChoice c.wrap r = pauseChoice c r := by
  simp only [pauseChoice, lastBurst_wrap, Channel.wrap_rtMaxb, Channel.wrap_rtBcount]

theorem runsCut_retarget (t : Time) : RunsCut fun c r => retarget c t r := by
  refine .of_commutes fun c r => ?_
  simp only [retarget, retargetDue_wrap, slopeStep_wrap]
  cases retargetDue c t <;> simp [cutPhases, Channel.wrap]

theorem runsCut_slopeAdvance : RunsCut fun c r => (slopeAdvance c, r) := by
  refine .of_commutes fun c r => ?_
  simp only [slopeAdvance, slopeValue_wrap]
  simp only [cutPhases, Channel.wrap]

theorem phaseKick_of_chance {pct : Int} {r : Rand} (h : (chance r pct 100).1 = true) (hi : Int) (c : Channel) :
    phaseKick pct hi c r =
      ({ c with phase := c.phase + (draw r.advance 1 hi).1.toNat * 2 ^ 32 }, r.advance.advance) := if_pos h

theorem phaseKick_of_not_chance {pct : Int} {r : Rand} (h : (chance r pct 100).1 = false) (hi : Int) (c : Channel) :
    phaseKick pct hi c r = (c, r.advance) := if_neg (by rw [h]; decide)

theorem runsCut_addUnits (n : Nat) : RunsCut fun c r => ({ c with phase := c.phase + n * 2 ^ 32 }, r) := by
  intro c r
  rw [cutPhases, cutPhases, Channel.wrap_write_phase c (wrapPhase_add_units c n)]

theorem runsCut_phaseKick (pct hi : Int) : RunsCut (phaseKick pct hi) := by
  intro c r
  cases h : (chance r pct 100).1 with
  | false => rw [phaseKick_of_not_chance h, phaseKick_of_not_chance h, cutPhases, cutPhases, Channel.wrap_wrap]
  | true =>
    rw [phaseKick_of_chance h, phaseKick_of_chance h]
    exact runsCut_addUnits _ c _

theorem runsCut_wonkyHold : RunsCut wonkyHold := by
  refine .of_commutes fun c r => ?_
  simp only [wonkyHold, baseFreq_wrap, Channel.wrap_wkDur, Channel.wrap_wkCnt]
  by_cases h : c.wkDur ≤ c.wkCnt + 1 <;> simp only [h, if_true, if_false, cutPhases, Channel.wrap]

theorem runsCut_wonkyNudge : RunsCut wonkyNudge := by
  intro c r
  by_cases h : cfg.wkNudgeThresh < fixVal c.wkMult <;>
    simp only [wonkyNudge, Channel.wrap_wkMult, h, if_true, if_false]
  · exact runsCut_phaseKick _ _ c r
  · rw [cutPhases, cutPhases, Channel.wrap_wrap]

theorem runsCut_ratchetBurst : RunsCut ratchetBurst := by
  intro c r
  have hadvance := wrapPhase_advance c.phase (ratchetFreq_nonneg c)
  simp only [ratchetBurst, burstOver_wrap, pauseChoice_wrap, baseFreq_wrap, Channel.wrap_phase, Channel.wrap_rtMult]
  cases burstOver c <;> simp [cutPhases, Channel.wrap, hadvance, wrapPhase_idem]

theorem runsCut_ratchetPause : RunsCut ratchetPause := by
  refine .of_commutes fun c r => ?_
  simp only [ratchetPause, pauseOver_wrap]
  cases pauseOver c <;> simp [cutPhases, Channel.wrap]

theorem runsCut_ratchetArm : RunsCut ratchetArm := by
  intro c r
  simp only [ratchetArm, Channel.wrap_rtSt]
  split
  · exact runsCut_ratchetBurst c r
  · exact runsCut_ratchetPause c r

/-- The last line of `RAT`: the triangle at the phase (R195). -/
theorem runsCut_readTriangle : RunsCut fun c r => ({ c with out := lookup .tri c.phase }, r) := by
  intro c r
  simp only [cutPhases, Channel.wrap, lookup_wrapPhase, wrapPhase_idem]

theorem runsCut_gravityRetarget : RunsCut gravityRetarget := by
  refine .of_commutes fun c r => ?_
  simp only [gravityRetarget, baseFreq_wrap]
  cases (chance r cfg.gravRetargetPerMille 1000).1 <;> simp [cutPhases, Channel.wrap]

theorem runsCut_gravityAdvance : RunsCut fun c r => (gravityAdvance c, r) := by
  intro c r
  have hf : 0 ≤ fixVal (gravityPull c) := fixVal_nonneg (Int.natCast_nonneg _)
  simp only [gravityAdvance, gravityPull_wrap, advanceAndLookup, Channel.wrap_phase, lookup_advance_wrapPhase _ _ hf]
  simp only [cutPhases, Channel.wrap, wrapPhase_advance _ hf, wrapPhase_idem]

/-! ## Updates -/

theorem runsCut_updateRsl (m : Byte) (t : Time) : RunsCut fun c r => updateRsl c m t r :=
  (runsCut_retarget t).comp runsCut_slopeAdvance

theorem runsCut_updateWnk (m : Byte) (t : Time) : RunsCut fun c r => updateWnk c m t r :=
  (((runsCut_phaseKick _ _).comp runsCut_wonkyHold).comp runsCut_wonkyNudge).comp
    (runsCut_advanceAndLookup .tri (f := fun c => baseFreq c * fixVal c.wkMult)
      (fun c => by rw [baseFreq_wrap, Channel.wrap_wkMult]) wonkyFreq_nonneg)

theorem runsCut_updateFm (m : Byte) (t : Time) : RunsCut fun c r => updateFm c m t r :=
  runsCut_advanceAndLookup .tri (f := fun c => fmFreq (baseFreq c) m) (fun c => by rw [baseFreq_wrap])
    fun _ => (by norm_num : (0 : ℚ) ≤ 1 / 100).trans (fmFreq_ge _ m)

theorem runsCut_updateRat (m : Byte) (t : Time) : RunsCut fun c r => updateRat c m t r :=
  runsCut_ratchetArm.comp runsCut_readTriangle

theorem runsCut_updateTsn (m : Byte) (t : Time) : RunsCut fun c r => updateTsn c m t r := by
  intro c r
  have hf := baseFreq_nonneg c
  have hq := baseFreq_mul_nonneg c (trisineRatio_nonneg c.tsSel)
  simp only [updateTsn, baseFreq_wrap, Channel.wrap_phase, Channel.wrap_tsPhase, Channel.wrap_tsSel,
    lookup_advance_wrapPhase _ _ hf, lookup_advance_wrapPhase _ _ hq]
  simp only [cutPhases, Channel.wrap, wrapPhase_advance _ hf, wrapPhase_advance _ hq, wrapPhase_idem]

theorem runsCut_updateAm (m : Byte) (t : Time) : RunsCut fun c r => updateAm c m t r := by
  intro c r
  have hf := baseFreq_nonneg c
  simp only [updateAm, baseFreq_wrap, Channel.wrap_phase, lookup_advance_wrapPhase _ _ hf]
  simp only [cutPhases, Channel.wrap, wrapPhase_advance _ hf, wrapPhase_idem]

theorem runsCut_updateSwm (m : Byte) (t : Time) : RunsCut fun c r => updateSwm c m t r := by
  intro c r
  have hf := baseFreq_nonneg c
  have hb : 0 ≤ cfg.swarmBreathHz := by simp
  have h0 : 0 ≤ baseFreq c * cfg.swarmRatio0 := baseFreq_mul_nonneg c (by simp)
  have h1 : 0 ≤ baseFreq c * cfg.swarmRatio1 := baseFreq_mul_nonneg c (by simp)
  have h2 : 0 ≤ baseFreq c * cfg.swarmRatio2 := baseFreq_mul_nonneg c (by simp)
  simp only [updateSwm, baseFreq_wrap, Channel.wrap_phase, Channel.wrap_swBreath, Channel.wrap_swSp0,
    Channel.wrap_swSp1, Channel.wrap_swSp2, lookup_advance_wrapPhase _ _ hf, lookup_advance_wrapPhase _ _ hb,
    lookup_advance_wrapPhase _ _ h0, lookup_advance_wrapPhase _ _ h1, lookup_advance_wrapPhase _ _ h2]
  simp only [cutPhases, Channel.wrap, wrapPhase_advance _ hf, wrapPhase_advance _ hb, wrapPhase_advance _ h0,
    wrapPhase_advance _ h1, wrapPhase_advance _ h2, wrapPhase_idem]

theorem runsCut_updatePen (m : Byte) (t : Time) : RunsCut fun c r => updatePen c m t r := by
  intro c r
  have hf := baseFreq_nonneg c
  have hq : 0 ≤ baseFreq c * cfg.pendDetune := baseFreq_mul_nonneg c (by norm_num)
  simp only [updatePen, baseFreq_wrap, Channel.wrap_phase, Channel.wrap_pnPhase, lookup_advance_wrapPhase _ _ hf,
    lookup_advance_wrapPhase _ _ hq]
  simp only [cutPhases, Channel.wrap, wrapPhase_advance _ hf, wrapPhase_advance _ hq, wrapPhase_idem]

theorem runsCut_updateGrv (m : Byte) (t : Time) : RunsCut fun c r => updateGrv c m t r :=
  runsCut_gravityRetarget.comp runsCut_gravityAdvance

/-- The template of R170 over a table. -/
theorem runsCut_template (t : Table) : RunsCut fun c r => (advanceAndLookup t (baseFreq c) c, r) :=
  runsCut_advanceAndLookup t baseFreq_wrap baseFreq_nonneg

/-- The update of every kind runs on cut accumulators as on full ones (R282). -/
theorem kindUpdate_runsCut {k : KindCode} {u : Update} (hu : kindUpdate k = some u) (m : Byte) (t : Time) :
    RunsCut fun c r => u c m t r := by
  rcases kindUpdate_cases hu with rfl | rfl | rfl | rfl | rfl | rfl | rfl | rfl | rfl | rfl | rfl | rfl
  · exact runsCut_template .tri
  · exact runsCut_template .sqr
  · exact runsCut_template .sin
  · exact runsCut_updateRsl m t
  · exact runsCut_updateWnk m t
  · exact runsCut_updateFm m t
  · exact runsCut_updateRat m t
  · exact runsCut_updateTsn m t
  · exact runsCut_updateAm m t
  · exact runsCut_updateSwm m t
  · exact runsCut_updatePen m t
  · exact runsCut_updateGrv m t

/-! ## The registers of a cut state -/

@[simp] theorem State.wrap_ch (s : State) (i : ChIx) : s.wrap.ch i = (s.ch i).wrap := by
  fin_cases i <;> rfl

@[simp] theorem State.wrap_rand (s : State) : s.wrap.rand = s.rand := rfl
@[simp] theorem State.wrap_now (s : State) : s.wrap.now = s.now := rfl
@[simp] theorem State.wrap_hand (s : State) : s.wrap.hand = s.hand := rfl

@[simp] theorem State.wrap_wrap (s : State) : s.wrap.wrap = s.wrap := by
  simp only [State.wrap, Channel.wrap_wrap]

theorem State.wrap_setCh (s : State) (i : ChIx) (c : Channel) : (s.setCh i c).wrap = s.wrap.setCh i c.wrap := by
  fin_cases i <;> rfl

/-! Writes of the other registers, which are not cut. -/

theorem State.wrap_with_rand (s : State) (r : Rand) : ({ s with rand := r } : State).wrap = { s.wrap with rand := r } :=
  rfl
theorem State.wrap_with_tref (s : State) (x : Time) : ({ s with tref := x } : State).wrap = { s.wrap with tref := x } :=
  rfl
theorem State.wrap_with_hand_congr {a b : State} (h : a.wrap = b.wrap) (x : Handover) :
    ({ a with hand := x } : State).wrap = ({ b with hand := x } : State).wrap :=
  congrArg (fun c : State => ({ c with hand := x } : State)) h
theorem State.wrap_with_sel_congr {a b : State} (h : a.wrap = b.wrap) (x : BitVec 2) :
    ({ a with sel := x } : State).wrap = ({ b with sel := x } : State).wrap :=
  congrArg (fun c : State => ({ c with sel := x } : State)) h
theorem State.wrap_with_ticked_congr {a b : State} (h : a.wrap = b.wrap) (x : Bool) :
    ({ a with ticked := x } : State).wrap = ({ b with ticked := x } : State).wrap :=
  congrArg (fun c : State => ({ c with ticked := x } : State)) h
theorem State.wrap_accept (s : State) (c : Command) (rest : List Command) :
    s.wrap.accept c rest = (s.accept c rest).wrap := rfl

/-! ## Turns, passes and instructions -/

/-- The state an update leaves, the accumulators cut, is written with the results of the update, cut. -/
theorem State.wrap_update (s : State) (u : Update) (i : ChIx) (m : Byte) (t : Time) :
    (s.update u i m t).wrap =
      { s.wrap.setCh i (cutPhases (u (s.ch i) m t s.rand)).1 with rand := (cutPhases (u (s.ch i) m t s.rand)).2 } := by
  rw [State.update, State.wrap_with_rand, State.wrap_setCh, cutPhases]

theorem State.update_runsCut {k : KindCode} {u : Update} (hu : kindUpdate k = some u) (s : State) (i : ChIx) (m : Byte)
    (t : Time) : (s.wrap.update u i m t).wrap = (s.update u i m t).wrap := by
  rw [State.wrap_update, State.wrap_update, State.wrap_wrap, State.wrap_ch, State.wrap_rand,
    kindUpdate_runsCut hu m t (s.ch i) s.rand]

theorem State.runUpdate_runsCut {k : KindCode} {u : Update} (hu : kindUpdate k = some u) (s : State) :
    (s.wrap.runUpdate u).wrap = (s.runUpdate u).wrap := by
  rw [State.runUpdate, State.runUpdate, State.wrap_hand]
  exact State.wrap_with_hand_congr (State.update_runsCut hu s _ _ _) _

theorem State.updateChannel_of_none (s : State) {i : ChIx} (h : kindUpdate (s.ch i).kind = none) (m : Byte) (t : Time) :
    s.updateChannel i m t = s := by
  simp only [State.updateChannel, h]

theorem State.updateChannel_runsCut (s : State) (i : ChIx) (m : Byte) (t : Time) :
    (s.wrap.updateChannel i m t).wrap = (s.updateChannel i m t).wrap := by
  have hkind : (s.wrap.ch i).kind = (s.ch i).kind := by rw [State.wrap_ch, Channel.wrap_kind]
  cases hu : kindUpdate (s.ch i).kind with
  | none => rw [s.updateChannel_of_none hu, s.wrap.updateChannel_of_none (hkind ▸ hu), State.wrap_wrap]
  | some u =>
    rw [s.updateChannel_of_some hu, s.wrap.updateChannel_of_some (hkind ▸ hu), State.update_runsCut hu]

/-- The turns of a pass run on cut accumulators as on full ones: no source's sample sees the bits cut off. -/
theorem afterTurns_runsCut (s : State) (n : Nat) : (afterTurns s.wrap n).wrap = (afterTurns s n).wrap := by
  induction n with
  | zero => exact s.wrap_wrap
  | succ n ih =>
    rw [afterTurns, afterTurns, State.wrap_ch, srcSample_wrap, State.wrap_now, ← State.updateChannel_runsCut, ih,
      State.updateChannel_runsCut]

theorem State.pass_runsCut (s : State) : s.wrap.pass.wrap = s.pass.wrap := by
  rw [State.pass_eq_afterTurns, State.pass_eq_afterTurns, afterTurns_runsCut]

theorem execPoll_runsCut (s : State) : wrapResult (execPoll s.wrap) = wrapResult (execPoll s) := by
  have hdue : s.wrap.tickDue = s.tickDue := rfl
  have htref : s.wrap.nextTref = s.nextTref := rfl
  have hkind : s.wrap.illegalKind = s.illegalKind := by
    simp only [State.illegalKind, State.kindPort, State.wrap_ch, Channel.wrap_kind]
  cases hd : s.tickDue with
  | false =>
    rw [execPoll_not_due hd, execPoll_not_due (hdue.trans hd), wrapResult, wrapResult,
      State.wrap_with_ticked_congr s.wrap_wrap]
  | true =>
    cases hk : s.illegalKind with
    | some k => rw [execPoll_refused hd hk, execPoll_refused (hdue.trans hd) (hkind.trans hk)]
    | none =>
      have hpass := State.pass_runsCut { s with tref := s.nextTref }
      rw [execPoll_due hd (s.illegalKind_eq_none_iff.mp hk),
        execPoll_due (hdue.trans hd) (s.wrap.illegalKind_eq_none_iff.mp (hkind.trans hk)), htref, wrapResult, wrapResult,
        ← State.wrap_with_tref, State.wrap_with_ticked_congr hpass]

/-- A channel write that does not read or write an accumulator. -/
theorem State.setFreq_runsCut (s : State) (ch : ChIx) (f : FreqCode) :
    (s.wrap.setFreq ch f).wrap = (s.setFreq ch f).wrap := by
  have hch : ({ (s.ch ch).wrap with freq := f } : Channel).wrap = ({ s.ch ch with freq := f } : Channel).wrap := by
    simp only [Channel.wrap, wrapPhase_idem]
  rw [State.setFreq, State.setFreq, State.wrap_setCh, State.wrap_setCh, State.wrap_wrap, State.wrap_ch, hch]

theorem State.setKind_runsCut (s : State) (ch : ChIx) (k : KindCode) :
    (s.wrap.setKind ch k).wrap = (s.setKind ch k).wrap := by
  have hch : ({ (s.ch ch).wrap with kind := k } : Channel).wrap = ({ s.ch ch with kind := k } : Channel).wrap := by
    simp only [Channel.wrap, wrapPhase_idem]
  rw [State.setKind, State.setKind, State.wrap_setCh, State.wrap_setCh, State.wrap_wrap, State.wrap_ch, hch]

/-- Every command runs on cut accumulators as on full ones (R282). -/
theorem exec_command_runsCut {i : Instr} (hu : updateOf i = none) (s : State) :
    wrapResult (exec i s.wrap) = wrapResult (exec i s) := by
  cases i <;> simp only [updateOf, reduceCtorEq] at hu
  case nop => exact congrArg Host.Outcome.next s.wrap_wrap
  case reset => rfl
  case poll => exact execPoll_runsCut s
  case sethz ch code => exact congrArg Host.Outcome.next (s.setFreq_runsCut ch code)
  case setn ch k => exact congrArg Host.Outcome.next (s.setFreq_runsCut ch _)
  case loadk ch v =>
    rcases Nat.lt_or_ge v.toNat 12 with hv | hv
    · rw [exec_loadk_of_le ch _ (by omega), exec_loadk_of_le ch _ (by omega), wrapResult, wrapResult,
        State.setKind_runsCut]
    · rw [exec_loadk_of_ge ch _ hv, exec_loadk_of_ge ch _ hv, wrapResult, wrapResult, State.wrap_wrap]
  case wadv d =>
    have hsel : s.wrap.selected = s.selected := rfl
    rw [exec_wadv, exec_wadv, wrapResult, wrapResult, hsel, State.wrap_ch, Channel.wrap_kind, State.setKind_runsCut]
  case selnx => exact congrArg Host.Outcome.next (State.wrap_with_sel_congr s.wrap_wrap _)

/-! ## One step -/

theorem stepUpdate_runsCut (s : State) : wrapResult (stepUpdate s.wrap) = wrapResult (stepUpdate s) := by
  have hkind : s.wrap.fetchKind = s.fetchKind := by
    rw [State.fetchKind, State.wrap_hand, State.wrap_ch, Channel.wrap_kind, State.fetchKind]
  cases hi : decodeKind s.fetchKind with
  | error e => rw [stepUpdate_of_reject hi, stepUpdate_of_reject (hkind ▸ hi), hkind]
  | ok i =>
    obtain ⟨u, hu⟩ := updateOf_decodeKind hi
    have hk : kindUpdate s.fetchKind = some u := by rw [kindUpdate, hi]; exact hu
    rw [stepUpdate_of_decode hi, stepUpdate_of_decode (hkind ▸ hi), exec_of_updateOf hu, exec_of_updateOf hu,
      wrapResult, wrapResult, State.runUpdate_runsCut hk]

theorem stepCommand_runsCut (s : State) (c : Command) (rest : List Command) :
    wrapResult (stepCommand s.wrap c rest) = wrapResult (stepCommand s c rest) := by
  rcases Nat.lt_or_ge c.now.toNat s.now.toNat with hc | hc
  · rw [stepCommand_of_back rest hc, stepCommand_of_back (s := s.wrap) rest hc, State.wrap_now]
  · cases hi : decodeCommand c.word with
    | ok i =>
      rw [stepCommand_of_decode rest hc hi, stepCommand_of_decode (s := s.wrap) rest hc hi, State.wrap_accept,
        exec_command_runsCut (updateOf_decodeCommand hi)]
    | error e =>
      rw [stepCommand_of_reject rest hc hi, stepCommand_of_reject (s := s.wrap) rest hc hi, State.wrap_accept,
        wrapResult, wrapResult, State.wrap_wrap]

/-- Settles O59: whatever the step takes its instruction from, that instruction runs cut. -/
theorem cutPhasesRunAlike : Obligations.CutPhasesRunAlike := by
  intro s
  cases hl : s.hand.live with
  | true => rw [step_of_live hl, step_of_live (s := s.wrap) hl, stepUpdate_runsCut]
  | false =>
    cases hp : s.port with
    | nil =>
      rw [step_of_port_nil hl hp, step_of_port_nil (s := s.wrap) hl hp, wrapResult, wrapResult, State.wrap_wrap]
    | cons c rest =>
      rw [step_of_port_cons hl hp, step_of_port_cons (s := s.wrap) hl hp, stepCommand_runsCut]

end Sys2Proof.Machine
end
